-- ==== Sys2Proof/Word.lean ====
section
/-! DEFINITION. The widths of DESCORE's values (00_scope.md R7, R8), each a bit vector of exactly that width (70_reset_and_hazards.md R238). -/

namespace Sys2Proof

/-- A register word, a Block or a KeyMaterial: 64 bits (R7). -/
abbrev Word := BitVec 64

/-- A register address: one of 16 word addresses (20_memory.md R50). -/
abbrev Addr := BitVec 4

/-- A subkey: 48 bits (R7). -/
abbrev Subkey := BitVec 48

/-- A subkey index, 0 to 15 (30_encoding.md R72). -/
abbrev SubkeyIdx := BitVec 4

/-- A SubKeySet: exactly 16 subkeys (R15). -/
abbrev SubkeySet := Vector Subkey 16

/-- A data half L or R: 32 bits (R7). -/
abbrev Half := BitVec 32

/-- A key half C or D: 28 bits (R7, R238). -/
abbrev KeyHalf := BitVec 28

end Sys2Proof
end

