-- ==== Sys2Proof/Syntax.lean ====
section
/-! DEFINITION. The six commands of DESCORE (30_encoding.md R74), one constructor for each row of spec/opcode_table.json. The index operand is a 4-bit value by type (R72), so every term is a command the hardware has. -/

namespace Sys2Proof

/-- A command (R74). Data operands are not part of it: they come from KEY_IN, DATA_IN and SUBKEY_IO (R72, R195). -/
inductive Instr where
  /-- NOP (45_interface_commands.md R198). -/
  | nop
  /-- LOADKEY: the key schedule of KEY_IN into the subkey file (41_key_schedule.md R121). -/
  | loadkey
  /-- ENCRYPT: DATA_IN under the subkey file, forward (44_block_cipher.md R178). -/
  | encrypt
  /-- DECRYPT: DATA_IN under the subkey file, reversed (44_block_cipher.md R179). -/
  | decrypt
  /-- WRSUBKEY i: one subkey from SUBKEY_IO (41_key_schedule.md R122). -/
  | wrsubkey (idx : SubkeyIdx)
  /-- RDSUBKEY i: one subkey to SUBKEY_IO (41_key_schedule.md R123). -/
  | rdsubkey (idx : SubkeyIdx)
  deriving DecidableEq, Repr

end Sys2Proof
end

