-- ==== Sys2Proof/WellFormed.lean ====
section
/-! DEFINITION. The well-formedness of a command word as the three fields of 30_encoding.md R70. A term of Instr is well formed by its type (Syntax.lean), so what can be ill formed is the word the host writes. -/

namespace Sys2Proof

/-- The fields of a command word (R70). -/
structure CommandFields where
  /-- RSV = w[63:8], must be zero (R73). -/
  rsv : BitVec 56
  /-- IDX = w[7:4] (R72). -/
  idx : BitVec 4
  /-- OP = w[3:0] (R71). -/
  op : BitVec 4
  deriving DecidableEq, Repr

/-- R73: no reserved bit is set. -/
def CommandFields.rsvOk (c : CommandFields) : Bool := c.rsv == 0

/-- R71: the operation is one of the six defined ones. -/
def CommandFields.opOk (c : CommandFields) : Bool := c.op.ule 5

/-- R72: an operation other than WRSUBKEY (0x4) and RDSUBKEY (0x5) has index 0. -/
def CommandFields.idxOk (c : CommandFields) : Bool := c.op == 4 || c.op == 5 || c.idx == 0

/-- The word is a command (R75, its field form). -/
def CommandFields.wf (c : CommandFields) : Bool := c.rsvOk && c.opOk && c.idxOk

end Sys2Proof
end

