-- ==== Sys2Proof/Decode.lean ====
section
/-! DEFINITION. Decoding of a command word, total, rejecting by name; the encoder; the mask-and-match rows of 30_encoding.md R75. -/

namespace Sys2Proof

/-- Why a word is illegal. Each reason has the one effect ILLEGAL_CMD (R76). -/
inductive IllegalWord where
  /-- A bit of RSV = w[63:8] is set (R73). -/
  | reservedBits
  /-- OP is one of 0x6 to 0xF (R71). -/
  | reservedOp
  /-- IDX is not 0 on an OP that does not use it (R72). -/
  | unusedIdx
  deriving DecidableEq, Repr

/-- What a word decodes to: exactly one of the two (R77). -/
inductive Decoded where
  | legal (i : Instr)
  | illegal (why : IllegalWord)
  deriving DecidableEq, Repr

/-- The fields of a word (R70). -/
def fieldsOf (w : Word) : CommandFields :=
  { rsv := w.extractLsb' 8 56, idx := w.extractLsb' 4 4, op := w.extractLsb' 0 4 }

/-- A command without an index: IDX must be 0 (R72, R75). -/
def plainCommand (idx : BitVec 4) (i : Instr) : Decoded :=
  if idx = 0 then .legal i else .illegal .unusedIdx

/-- The command of a word's OP and IDX (R74), its RSV aside. -/
def decodeOp (op idx : BitVec 4) : Decoded :=
  if op = 0 then plainCommand idx .nop
  else if op = 1 then plainCommand idx .loadkey
  else if op = 2 then plainCommand idx .encrypt
  else if op = 3 then plainCommand idx .decrypt
  else if op = 4 then .legal (.wrsubkey idx)
  else if op = 5 then .legal (.rdsubkey idx)
  else .illegal .reservedOp

/-- The command a word is (R70 to R75), or why it is none. -/
def decode (w : Word) : Decoded :=
  if (fieldsOf w).rsv = 0 then decodeOp (fieldsOf w).op (fieldsOf w).idx
  else .illegal .reservedBits

/-- OP of a command (R74). -/
def opcode (i : Instr) : BitVec 4 :=
  match i with
  | .nop => 0x0
  | .loadkey => 0x1
  | .encrypt => 0x2
  | .decrypt => 0x3
  | .wrsubkey _ => 0x4
  | .rdsubkey _ => 0x5

/-- IDX of a command: 0 for those that have none (R72). -/
def indexField (i : Instr) : BitVec 4 :=
  match i with
  | .nop => 0
  | .loadkey => 0
  | .encrypt => 0
  | .decrypt => 0
  | .wrsubkey idx => idx
  | .rdsubkey idx => idx

/-- The word of a command (R74): RSV = 0, then IDX, then OP. -/
def encode (i : Instr) : Word :=
  (0 : BitVec 56) ++ indexField i ++ opcode i

/-- A row of R75's mask-and-match test. -/
structure OpcodeRow where
  mask : Word
  value : Word
  deriving DecidableEq, Repr

/-- R75's rows: NOP, LOADKEY, ENCRYPT, DECRYPT, WRSUBKEY, RDSUBKEY. -/
def opcodeRows : List OpcodeRow :=
  [ { mask := 0xFFFFFFFFFFFFFFFF, value := 0 },
    { mask := 0xFFFFFFFFFFFFFFFF, value := 1 },
    { mask := 0xFFFFFFFFFFFFFFFF, value := 2 },
    { mask := 0xFFFFFFFFFFFFFFFF, value := 3 },
    { mask := 0xFFFFFFFFFFFFFF0F, value := 4 },
    { mask := 0xFFFFFFFFFFFFFF0F, value := 5 } ]

/-- A word matches a row. -/
def rowMatches (w : Word) (r : OpcodeRow) : Bool := (w &&& r.mask) == r.value

/-- `legal(w)` of R75 as a mask-and-match test. -/
def legal (w : Word) : Bool := opcodeRows.any (rowMatches w)

/-- The command a decoded word stands for, if it is legal. -/
def legalInstr (d : Decoded) : Option Instr :=
  match d with
  | .legal i => some i
  | .illegal _ => none

/-- The host's reader of one row of spec/opcode_table.json: a command is one 64-bit word (R78), with the bits above `nbits` zero. -/
def decodeTableWord (nbits w : Nat) : Option Instr :=
  legalInstr (decode (BitVec.ofNat 64 (w % 2 ^ nbits)))

end Sys2Proof
end

