-- ==== Sys2Proof/Machine/BitPermuter.lean ====
section
/-! DEFINITION. BitPermuter: the bit-selection function behind IP, FP, E, P, PC-1 and PC-2 (40_bit_permuter.md). -/

namespace Sys2Proof.Machine

/-- `pos_N(v, p)`: the bit of `v` at DES position `p`, counted from 1 at the most significant end (00_scope.md R11). -/
def desPos {n : Nat} (v : BitVec n) (p : Nat) : Bool := v.getLsbD (n - p)

/-- One pass of R101's loop: shift left, and append the selected bit as the new least significant one. -/
def permuteStep {n : Nat} (m : Nat) (v : BitVec n) (r : BitVec m) (t : Nat) : BitVec m :=
  (r <<< 1) ||| (BitVec.ofBool (desPos v t)).setWidth m

/-- `permute(v, T, N)`, an M-bit value (R101). -/
def permute {n : Nat} (m : Nat) (v : BitVec n) (table : List Nat) : BitVec m :=
  table.foldl (permuteStep m v) 0

/-- What a table of source width `n` and destination width `m` is (R100). -/
def tableOk (n m : Nat) (table : List Nat) : Bool :=
  table.length == m && table.all (fun t => 1 ≤ t && t ≤ n)

/-- Every position 1..n appears exactly once (R103). -/
def tableBijective (n : Nat) (table : List Nat) : Bool :=
  tableOk n n table && decide table.Nodup

/-- The inverse table: entry `T[j] - 1` is `j + 1` (R103). -/
def inverseTable (table : List Nat) : List Nat :=
  (List.range table.length).map (fun p => table.idxOf (p + 1) + 1)

end Sys2Proof.Machine
end

