-- ==== Sys2Proof/Machine/FeistelRound.lean ====
section
/-! DEFINITION. FeistelRound: the round function f (43_feistel.md). The table contents are the spec's, which it supplies from general knowledge (log 18). -/

namespace Sys2Proof.Machine

/-- The expansion table E (R161). -/
def tableE : List Nat :=
  [ 32, 1, 2, 3, 4, 5,
    4, 5, 6, 7, 8, 9,
    8, 9, 10, 11, 12, 13,
    12, 13, 14, 15, 16, 17,
    16, 17, 18, 19, 20, 21,
    20, 21, 22, 23, 24, 25,
    24, 25, 26, 27, 28, 29,
    28, 29, 30, 31, 32, 1 ]

/-- The P-box table P (R163). -/
def tableP : List Nat :=
  [ 16, 7, 20, 21, 29, 12, 28, 17,
    1, 15, 23, 26, 5, 18, 31, 10,
    2, 8, 24, 14, 32, 27, 3, 9,
    19, 13, 30, 6, 22, 11, 4, 25 ]

/-- `f(R, K)`: expansion, XOR with the subkey, substitution, P (R160). -/
def feistel (r : Half) (k : Subkey) : Half :=
  permute 32 (sbox (permute 48 r tableE ^^^ k)) tableP

end Sys2Proof.Machine
end

