-- ==== Sys2Proof/Machine/BlockCipherCore.lean ====
section
/-! DEFINITION. BlockCipherCore: IP, sixteen rounds, the un-swap and FP (44_block_cipher.md). The table contents are the spec's, which it supplies from general knowledge (log 18). -/

namespace Sys2Proof.Machine

/-- The initial permutation IP (R170). -/
def tableIP : List Nat :=
  [ 58, 50, 42, 34, 26, 18, 10, 2,
    60, 52, 44, 36, 28, 20, 12, 4,
    62, 54, 46, 38, 30, 22, 14, 6,
    64, 56, 48, 40, 32, 24, 16, 8,
    57, 49, 41, 33, 25, 17, 9, 1,
    59, 51, 43, 35, 27, 19, 11, 3,
    61, 53, 45, 37, 29, 21, 13, 5,
    63, 55, 47, 39, 31, 23, 15, 7 ]

/-- The final permutation FP (R171). -/
def tableFP : List Nat :=
  [ 40, 8, 48, 16, 56, 24, 64, 32,
    39, 7, 47, 15, 55, 23, 63, 31,
    38, 6, 46, 14, 54, 22, 62, 30,
    37, 5, 45, 13, 53, 21, 61, 29,
    36, 4, 44, 12, 52, 20, 60, 28,
    35, 3, 43, 11, 51, 19, 59, 27,
    34, 2, 42, 10, 50, 18, 58, 26,
    33, 1, 41, 9, 49, 17, 57, 25 ]

/-- The two data halves. -/
structure Halves where
  l : Half
  r : Half
  deriving DecidableEq, Repr

/-- Steps 1 and 2 of R174: IP, then the split, left half high. -/
def splitBlock (block : Word) : Halves :=
  let ip : Word := permute 64 block tableIP
  { l := ip.extractLsb' 32 32, r := ip.extractLsb' 0 32 }

/-- One round; both new halves come from the old pair (R173). -/
def roundStep (h : Halves) (k : Subkey) : Halves := { l := h.r, r := h.l ^^^ feistel h.r k }

/-- Steps 4 and 5 of R174: the halves recombined right half high (R175), then FP. -/
def joinBlock (h : Halves) : Word := permute 64 (h.r ++ h.l : BitVec 64) tableFP

/-- The order of ENCRYPT (R176). -/
def orderFwd (i : Fin 16) : Fin 16 := i

/-- The order of DECRYPT: subkey 15 first (R176). -/
def orderRev (i : Fin 16) : Fin 16 := 15 - i

/-- The round numbers 0 to 15 in order. -/
def roundNumbers : List (Fin 16) := [0, 1, 2, 3, 4, 5, 6, 7, 8, 9, 10, 11, 12, 13, 14, 15]

/-- The loop of R174 over the given round numbers. -/
def runRounds (ks : SubkeySet) (ord : Fin 16 → Fin 16) : List (Fin 16) → Halves → Halves
  | [], h => h
  | i :: rest, h => runRounds ks ord rest (roundStep h (ks.get (ord i)))

/-- `CIPHER(block, ks, ord)` (R174). -/
def cipher (block : Word) (ks : SubkeySet) (ord : Fin 16 → Fin 16) : Word :=
  joinBlock (runRounds ks ord roundNumbers (splitBlock block))

/-- The halves after the first `k` rounds, L(k) and R(k) (R173, R181). -/
def roundsAfter (block : Word) (ks : SubkeySet) (ord : Fin 16 → Fin 16) (k : Nat) : Halves :=
  runRounds ks ord (roundNumbers.take k) (splitBlock block)

end Sys2Proof.Machine
end

