-- ==== Sys2Proof/Config.lean ====
section
/-! DEFINITION. What an implementation fixes: the latencies of 70_reset_and_hazards.md R240, as named parameters with their default values. The machine takes them from a field of State (log 16). The spec leaves no result of an instruction open, so there is no free value here. -/

namespace Sys2Proof

/-- The latency parameters of an implementation, in engine cycles (R240, 93_implementation_defined.md U17). -/
structure Latencies where
  /-- LAT_NOP. -/
  nop : Nat
  /-- LAT_KS, the latency of LOADKEY. -/
  ks : Nat
  /-- LAT_CIPHER, the latency of ENCRYPT and DECRYPT. -/
  cipher : Nat
  /-- LAT_SK, the latency of WRSUBKEY and RDSUBKEY. -/
  sk : Nat
  deriving DecidableEq, Repr

/-- The default values (R240). -/
def Config.latencies : Latencies := { nop := 1, ks := 17, cipher := 18, sk := 1 }

end Sys2Proof
end

