-- ==== Sys2Proof/Machine/State.lean ====
section
/-! DEFINITION. The state of DESCORE (10_state.md R20), what the outside world can do to it, and the state after reset (70_reset_and_hazards.md R230). -/

namespace Sys2Proof.Machine

/-- What PEND_OP can hold: the operation of an accepted command (10_state.md R35, 45_interface_commands.md R197). DEDUCED, safe: "No other value of PEND_OP can occur" (log 7). -/
inductive Op where
  | nop
  | loadkey
  | encrypt
  | decrypt
  | wrsubkey
  | rdsubkey
  deriving DecidableEq, Repr

/-- A host access to the register space (20_memory.md R52, R53). -/
inductive Access where
  /-- `RegRead(a)`. -/
  | read (a : Addr)
  /-- `RegWrite(a, v)`. -/
  | write (a : Addr) (v : Word)
  deriving DecidableEq, Repr

/-- One step's cause, from the outside world or the engine's turn (20_memory.md R60, 45_interface_commands.md R201). DESIGN CHOICE, safe: the order is plain data, and every order is some list (log 1). -/
inductive Input where
  /-- A host step. -/
  | host (a : Access)
  /-- The engine's turn: `Complete()` (R196). -/
  | complete
  /-- One clock cycle of the reference interface, with at most one host access (R242, R62). -/
  | clock (a : Option Access)
  /-- `Reset()` as one step (R230). -/
  | reset
  /-- The reset pin goes to the given level (R232). -/
  | rst (level : Bool)
  deriving DecidableEq, Repr

/-- The whole state (R20). The docstring of each field gives its rule. -/
structure State where
  /-- KEY_IN (R21). -/
  keyIn : Word
  /-- DATA_IN (R22). -/
  dataIn : Word
  /-- DATA_OUT (R23). -/
  dataOut : Word
  /-- SUBKEY_IO[47:0]; bits 63:48 do not exist (R24). -/
  subkeyIo : Subkey
  /-- SK[0..15] (R25). -/
  sk : SubkeySet
  /-- SKV[15:0] (R26). -/
  skv : BitVec 16
  /-- STATUS.BUSY (R28). -/
  busy : Bool
  /-- STATUS.DONE (R29). -/
  done : Bool
  /-- STATUS.OVR (R31). -/
  ovr : Bool
  /-- STATUS.ERR (R32). -/
  err : BitVec 4
  /-- PEND_OP (R35). What it and the next two fields hold while BUSY = 0 is the model's choice (log 5). -/
  pendOp : Op
  /-- PEND_IDX (R35). -/
  pendIdx : SubkeyIdx
  /-- OPND (R35). -/
  opnd : Word
  /-- The working register L (R36). What it and the next four fields hold outside the sequencer's own cycles is the model's choice (log 6). -/
  workL : Half
  /-- The working register R (R36). -/
  workR : Half
  /-- The working register C (R36). -/
  workC : KeyHalf
  /-- The working register D (R36). -/
  workD : KeyHalf
  /-- The round counter RC (R36). -/
  rc : BitVec 5
  /-- The latency parameters of this implementation (R8, R240); the model's own field, which no step changes (log 16). -/
  lat : Latencies
  /-- The engine cycles that are left of the BUSY window (R240); the model's own field, read by the engine's cycles only (log 21). -/
  window : Nat
  /-- The level of the reset pin (R232); the model's own field (log 11). -/
  rst : Bool
  /-- What the last `RegRead` returned (R201); the model's own field (log 10). -/
  rdata : Word
  /-- What happens next, first one first (R60); the model's own field (log 1). -/
  inputs : List Input
  deriving DecidableEq, Repr

/-- Why the machine would stop with a fault. DESCORE has no trap (60_exceptions.md R216) and every step is total (45_interface_commands.md R201), so there is no reason: the type is empty, which is safe, since nothing stops (log 19). -/
inductive Fault where
  deriving DecidableEq, Repr

/-- Why an instruction would have no meaning. -/
inductive Refusal where
  /-- An arm of exec that has no meaning yet would answer this; no arm does. Safe: it stops the run. -/
  | notModelled (mnemonic : String)
  deriving DecidableEq, Repr

/-- The outcome of a step. -/
abbrev Result := Host.Outcome State Fault Refusal

/-- The state right after reset (R230). Where R230 says unspecified (SK, the pending latch, L, R, C, D, RC) the value is a DESIGN CHOICE, unsafe (log 4, 5, 6); `lat`, `window`, `rst`, `rdata` and `inputs` are the model's own (log 16, 21, 11, 10, 14). -/
def State.reset : State where
  keyIn := 0
  dataIn := 0
  dataOut := 0
  subkeyIo := 0
  sk := Vector.replicate 16 0
  skv := 0
  busy := false
  done := false
  ovr := false
  err := 0
  pendOp := .nop
  pendIdx := 0
  opnd := 0
  workL := 0
  workR := 0
  workC := 0
  workD := 0
  rc := 0
  lat := Config.latencies
  window := 0
  rst := false
  rdata := 0
  inputs := []

end Sys2Proof.Machine
end

