-- ==== Sys2Proof/Machine/Flags.lean ====
section
/-! DEFINITION. The status fields: STATUS and SKVALID as words, KSV, irq, and the effect of a write to STATUS (10_state.md R27 to R34, R40; 45_interface_commands.md R199). -/

namespace Sys2Proof.Machine

/-- STATUS.KSV: all 16 subkeys valid (R30). -/
def ksv (s : State) : Bool := s.skv == 0xFFFF

/-- STATUS as a word: ERR ++ OVR ++ KSV ++ DONE ++ BUSY in bits 7:0, bits 63:8 zero (R27, 20_memory.md R52). -/
def statusWord (s : State) : Word :=
  (s.err ++ BitVec.ofBool s.ovr ++ BitVec.ofBool (ksv s) ++ BitVec.ofBool s.done ++ BitVec.ofBool s.busy).setWidth 64

/-- SKVALID as a word (R34). -/
def skvalidWord (s : State) : Word := s.skv.setWidth 64

/-- The output `irq` (R40, 60_exceptions.md R218). -/
def irq (s : State) : Bool := s.done

/-- `StatusWrite(v)`: DONE, OVR and each bit of ERR are write-1-to-clear; BUSY, KSV and bits 63:8 ignore the write (R199). -/
def statusWrite (v : Word) (s : State) : State :=
  { s with
    done := s.done && !v.getLsbD 1
    ovr := s.ovr && !v.getLsbD 3
    err := s.err &&& ~~~(v.extractLsb' 4 4) }

/-- ERR = ILLEGAL_CMD (60_exceptions.md R211, R212). -/
def errIllegalCmd : BitVec 4 := 0x1

/-- ERR = NO_KEY (60_exceptions.md R211, R213). -/
def errNoKey : BitVec 4 := 0x2

/-- ERR = OK (60_exceptions.md R211). -/
def errOk : BitVec 4 := 0x0

end Sys2Proof.Machine
end

