-- ==== Sys2Proof/Machine/Operands.lean ====
section
/-! DEFINITION. The operands of a command: what is captured at issue, which subkeys it needs, how the pending latch names it and how long it takes (45_interface_commands.md R193, R195, R197), and the host's byte order (20_memory.md R57). -/

namespace Sys2Proof.Machine

/-- The operation a command puts into PEND_OP (R194). -/
def opOf (i : Instr) : Op :=
  match i with
  | .nop => .nop
  | .loadkey => .loadkey
  | .encrypt => .encrypt
  | .decrypt => .decrypt
  | .wrsubkey _ => .wrsubkey
  | .rdsubkey _ => .rdsubkey

/-- The index a command puts into PEND_IDX: `w[7:4]`, which is 0 where IDX is not used (R194, 30_encoding.md R72). -/
def idxOf (i : Instr) : SubkeyIdx :=
  match i with
  | .nop => 0
  | .loadkey => 0
  | .encrypt => 0
  | .decrypt => 0
  | .wrsubkey idx => idx
  | .rdsubkey idx => idx

/-- The command in flight, as the pending latch holds it (R35, R197). -/
def pending (s : State) : Instr :=
  match s.pendOp with
  | .nop => .nop
  | .loadkey => .loadkey
  | .encrypt => .encrypt
  | .decrypt => .decrypt
  | .wrsubkey => .wrsubkey s.pendIdx
  | .rdsubkey => .rdsubkey s.pendIdx

/-- `operand(w)`: the data operand captured at issue (R195). -/
def operand (i : Instr) (s : State) : Word :=
  match i with
  | .nop => 0
  | .loadkey => s.keyIn
  | .encrypt => s.dataIn
  | .decrypt => s.dataIn
  | .wrsubkey _ => s.subkeyIo.setWidth 64
  | .rdsubkey _ => 0

/-- The key requirement of a command: true where it has none or where its subkeys are valid (R193). -/
def keyReady (i : Instr) (s : State) : Bool :=
  match i with
  | .nop => true
  | .loadkey => true
  | .encrypt => s.skv == 0xFFFF
  | .decrypt => s.skv == 0xFFFF
  | .wrsubkey _ => true
  | .rdsubkey idx => s.skv.getLsbD idx.toNat

/-- How many engine cycles an operation takes on this implementation (70_reset_and_hazards.md R240). -/
def latency (op : Op) (s : State) : Nat :=
  match op with
  | .nop => s.lat.nop
  | .loadkey => s.lat.ks
  | .encrypt => s.lat.cipher
  | .decrypt => s.lat.cipher
  | .wrsubkey => s.lat.sk
  | .rdsubkey => s.lat.sk

/-- An index as a position of the subkey file (R72). -/
def slotOf (idx : SubkeyIdx) : Fin 16 := idx.toFin

/-- Eight bytes packed big-endian: byte 0 in bits 63:56 (20_memory.md R57). The host does this, not DESCORE. -/
def packBlock (bytes : Vector (BitVec 8) 8) : Word :=
  bytes.get 0 ++ bytes.get 1 ++ bytes.get 2 ++ bytes.get 3 ++ bytes.get 4 ++ bytes.get 5 ++ bytes.get 6 ++ bytes.get 7

/-- Byte `j` of a block is `v[63-8j : 56-8j]` (20_memory.md R57). -/
def blockByte (v : Word) (j : Fin 8) : BitVec 8 := v.extractLsb' (56 - 8 * j.val) 8

/-- A block unpacked by the same convention (20_memory.md R57). -/
def unpackBlock (v : Word) : Vector (BitVec 8) 8 :=
  #v[blockByte v 0, blockByte v 1, blockByte v 2, blockByte v 3, blockByte v 4, blockByte v 5, blockByte v 6, blockByte v 7]

end Sys2Proof.Machine
end

