-- ==== Sys2Proof/Machine/Ops.lean ====
section
/-! DEFINITION. The named operations over the registers: reset, the read of the register map, the four outcomes of a command write, completion, and the shared shape of a command. DESCORE has no trap (60_exceptions.md R216): its one way to report an error is `reject`, and nothing returns from it. -/

namespace Sys2Proof.Machine

/-- `Reset()` on the machine (70_reset_and_hazards.md R230). The parameters, the pin, the host's read data and the inputs are not DESCORE's registers, and stay. -/
def resetRegs (s : State) : State :=
  { State.reset with lat := s.lat, rst := s.rst, rdata := s.rdata, inputs := s.inputs }

/-- `RegRead(a)` (20_memory.md R52; reserved addresses read 0, R54). -/
def regRead (a : Addr) (s : State) : Word :=
  if a = 0x1 then statusWord s
  else if a = 0x2 then s.keyIn
  else if a = 0x3 then s.dataIn
  else if a = 0x4 then s.dataOut
  else if a = 0x5 then s.subkeyIo.setWidth 64
  else if a = 0x6 then skvalidWord s
  else 0

/-- The host reads `a`: the value goes to the host, and no register changes (R58, 45_interface_commands.md R201). -/
def hostRead (a : Addr) (s : State) : State := { s with rdata := regRead a s }

/-- A write to a data register; every other address but CMD and STATUS ignores it (20_memory.md R53, R54). -/
def dataWrite (a : Addr) (v : Word) (s : State) : State :=
  if a = 0x2 then { s with keyIn := v }
  else if a = 0x3 then { s with dataIn := v }
  else if a = 0x5 then { s with subkeyIo := v.extractLsb' 0 48 }
  else s

/-- `DropWhileBusy()` (45_interface_commands.md R191, 60_exceptions.md R214). -/
def dropWhileBusy (s : State) : State := { s with ovr := true }

/-- `Reject(code)`, with `status_error(code)` (45_interface_commands.md R192, 60_exceptions.md R211). -/
def reject (code : BitVec 4) (s : State) : State := { s with err := code, done := true }

/-- `Accept(w)` (45_interface_commands.md R194). DEDUCED, unsafe: the round counter starts at 0, since it "counts from 0 to 17 within one command" (10_state.md R39, log 8). The BUSY window starts at the command's latency (70_reset_and_hazards.md R240, log 21). Nothing else changes. -/
def accept (i : Instr) (s : State) : State :=
  { s with
    pendOp := opOf i
    pendIdx := idxOf i
    opnd := operand i s
    busy := true
    done := false
    err := errOk
    rc := 0
    window := latency (opOf i) s }

/-- The issue of a legal command while BUSY = 0 (45_interface_commands.md R190, R193). -/
def issueLegal (i : Instr) (s : State) : State :=
  if keyReady i s then accept i s else reject errNoKey s

/-- The end of `Complete()`: ERR and OVR stay (45_interface_commands.md R196). The latch, L, R, C, D, RC and the window stay too: DESIGN CHOICE, unsafe, since the spec leaves the latch at any value while BUSY = 0 and the working registers at any value outside the sequencer's own cycles (93_implementation_defined.md U8, U9; log 5, 6, 21). -/
def finish (s : State) : State := { s with busy := false, done := true }

/-- The part of a command that is due: its issue while the engine is idle, its effect and the completion while it is in flight (R190, R196; DESIGN CHOICE, safe, log 13). A completion here is atomic and leaves L, R, C, D and RC as they were, which the spec leaves at any value: DESIGN CHOICE, unsafe (U9, log 6). -/
def runCommand (i : Instr) (effect : State → State) (s : State) : Result :=
  if s.busy then .next (finish (effect s)) else .next (issueLegal i s)

/-- A state change after an outcome that goes on. -/
def andThen (o : Result) (g : State → State) : Result :=
  match o with
  | .next s => .next (g s)
  | .fault f => .fault f
  | .refused r => .refused r

/-- One subkey register is written and becomes valid (41_key_schedule.md R122). -/
def writeSubkey (idx : SubkeyIdx) (k : Subkey) (s : State) : State :=
  { s with
    sk := s.sk.set (slotOf idx) k
    skv := s.skv ||| (1 <<< idx.toNat) }

/-- One subkey register (10_state.md R25). -/
def readSubkey (idx : SubkeyIdx) (s : State) : Subkey := s.sk.get (slotOf idx)

end Sys2Proof.Machine
end

