-- ==== Sys2Proof/Machine/CipherCommands.lean ====
section
/-! DEFINITION. The cipher commands: ENCRYPT and DECRYPT (44_block_cipher.md R178, R179). -/

namespace Sys2Proof.Machine

/-- ENCRYPT at completion (R178). -/
def effectEncrypt (s : State) : State := { s with dataOut := cipher s.opnd s.sk orderFwd }

/-- ENCRYPT (R178). -/
def execEncrypt (s : State) : Result := runCommand .encrypt effectEncrypt s

/-- DECRYPT at completion: the same datapath, subkey 15 first (R179, R176). -/
def effectDecrypt (s : State) : State := { s with dataOut := cipher s.opnd s.sk orderRev }

/-- DECRYPT (R179). -/
def execDecrypt (s : State) : Result := runCommand .decrypt effectDecrypt s

end Sys2Proof.Machine
end

