-- ==== Sys2Proof/Machine/InterfaceCommands.lean ====
section
/-! DEFINITION. The command of the interface family: NOP (45_interface_commands.md R198). -/

namespace Sys2Proof.Machine

/-- NOP's effect at completion: nothing (R198). -/
def effectNop (s : State) : State := s

/-- NOP (R198). -/
def execNop (s : State) : Result := runCommand .nop effectNop s

end Sys2Proof.Machine
end

