-- ==== Sys2Proof/Machine/KeyScheduler.lean ====
section
/-! DEFINITION. KeyScheduler: PC-1, the rotations, PC-2 and the SubKeySet of a key (41_key_schedule.md). The table contents are the spec's, which it supplies from general knowledge (log 18). -/

namespace Sys2Proof.Machine

/-- PC-1 (R110). -/
def tablePC1 : List Nat :=
  [ 57, 49, 41, 33, 25, 17, 9,
    1, 58, 50, 42, 34, 26, 18,
    10, 2, 59, 51, 43, 35, 27,
    19, 11, 3, 60, 52, 44, 36,
    63, 55, 47, 39, 31, 23, 15,
    7, 62, 54, 46, 38, 30, 22,
    14, 6, 61, 53, 45, 37, 29,
    21, 13, 5, 28, 20, 12, 4 ]

/-- PC-2 (R117). -/
def tablePC2 : List Nat :=
  [ 14, 17, 11, 24, 1, 5,
    3, 28, 15, 6, 21, 10,
    23, 19, 12, 4, 26, 8,
    16, 7, 27, 20, 13, 2,
    41, 52, 31, 37, 47, 55,
    30, 40, 51, 45, 33, 48,
    44, 49, 39, 56, 34, 53,
    46, 42, 50, 36, 29, 32 ]

/-- The shift schedule (R113; 90_conflicts.md C2 settles its contents). -/
def shiftSchedule : List Nat := [1, 1, 2, 2, 2, 2, 2, 2, 1, 2, 2, 2, 2, 2, 2, 1]

/-- The left rotation within 28 bits (R114, 70_reset_and_hazards.md R238). -/
def rotl28 (x : KeyHalf) (s : Nat) : KeyHalf := (x <<< s) ||| (x >>> (28 - s))

/-- The two key halves. -/
structure KeyHalves where
  c : KeyHalf
  d : KeyHalf
  deriving DecidableEq, Repr

/-- C0 and D0: PC-1, then the split (R112). -/
def splitKey (key : Word) : KeyHalves :=
  let k56 : BitVec 56 := permute 56 key tablePC1
  { c := k56.extractLsb' 28 28, d := k56.extractLsb' 0 28 }

/-- Both halves rotate by the same amount, each on its own (R115). -/
def rotateHalves (h : KeyHalves) (s : Nat) : KeyHalves := { c := rotl28 h.c s, d := rotl28 h.d s }

/-- The subkey of rotated halves: C ++ D through PC-2 (R116, R118). -/
def compressHalves (h : KeyHalves) : Subkey := permute 48 (h.c ++ h.d : BitVec 56) tablePC2

/-- The loop of R119 over the remaining shifts: rotate, then compress. -/
def scheduleFrom (h : KeyHalves) : List Nat → List Subkey
  | [] => []
  | s :: rest => compressHalves (rotateHalves h s) :: scheduleFrom (rotateHalves h s) rest

theorem scheduleFrom_length (shifts : List Nat) (h : KeyHalves) : (scheduleFrom h shifts).length = shifts.length := by
  induction shifts generalizing h with
  | nil => rfl
  | cons s rest ih => simp [scheduleFrom, ih]

/-- `KS(key)`: the SubKeySet of a key (R119). -/
def keySchedule (key : Word) : SubkeySet :=
  ⟨(scheduleFrom (splitKey key) shiftSchedule).toArray, scheduleFrom_length shiftSchedule (splitKey key)⟩

/-- The halves after the first `k` rounds, C(k) and D(k) (R115). -/
def halvesAfter (key : Word) (k : Nat) : KeyHalves :=
  (shiftSchedule.take k).foldl rotateHalves (splitKey key)

end Sys2Proof.Machine
end

