-- ==== Sys2Proof/Machine/SubkeyCommands.lean ====
section
/-! DEFINITION. The commands that write or read the subkey file: LOADKEY, WRSUBKEY, RDSUBKEY (41_key_schedule.md R121 to R123). -/

namespace Sys2Proof.Machine

/-- LOADKEY at completion: the key schedule of OPND fills SK, and every entry is valid (R121). -/
def effectLoadkey (s : State) : State := { s with sk := keySchedule s.opnd, skv := 0xFFFF }

/-- LOADKEY (R121). -/
def execLoadkey (s : State) : Result := runCommand .loadkey effectLoadkey s

/-- WRSUBKEY at completion: `OPND[47:0]` into one entry, which is valid from then on (R122). -/
def effectWrsubkey (idx : SubkeyIdx) (s : State) : State := writeSubkey idx (s.opnd.extractLsb' 0 48) s

/-- WRSUBKEY i (R122). -/
def execWrsubkey (idx : SubkeyIdx) (s : State) : Result := runCommand (.wrsubkey idx) (effectWrsubkey idx) s

/-- RDSUBKEY at completion: one entry into SUBKEY_IO (R123). -/
def effectRdsubkey (idx : SubkeyIdx) (s : State) : State := { s with subkeyIo := readSubkey idx s }

/-- RDSUBKEY i (R123). -/
def execRdsubkey (idx : SubkeyIdx) (s : State) : Result := runCommand (.rdsubkey idx) (effectRdsubkey idx) s

end Sys2Proof.Machine
end

