-- ==== Sys2Proof/Machine/Dispatch.lean ====
section
/-! DEFINITION. The dispatch: one arm per command, no wildcard (45_interface_commands.md R197). -/

namespace Sys2Proof.Machine

def exec (i : Instr) (s : State) : Host.Outcome State Fault Refusal :=
  match i with
  | .nop => Sys2Proof.Machine.execNop s
  | .loadkey => Sys2Proof.Machine.execLoadkey s
  | .encrypt => Sys2Proof.Machine.execEncrypt s
  | .decrypt => Sys2Proof.Machine.execDecrypt s
  | .wrsubkey idx => Sys2Proof.Machine.execWrsubkey idx s
  | .rdsubkey idx => Sys2Proof.Machine.execRdsubkey idx s

end Sys2Proof.Machine
end

