-- ==== Sys2Proof/Machine/Sequencer.lean ====
section
/-! DEFINITION. The reference cycle-level sequencer: the same completions, one engine cycle at a time, over L, R, C, D and RC, in a BUSY window of the length the latency parameters give (41_key_schedule.md R125, 44_block_cipher.md R181, 70_reset_and_hazards.md R240). -/

namespace Sys2Proof.Machine

/-- Cycle 0 of LOADKEY: PC-1 and the split (R125). -/
def keyCycleFirst (s : State) : State :=
  { s with workC := (splitKey s.opnd).c, workD := (splitKey s.opnd).d, rc := 1 }

/-- Cycle `k` of LOADKEY, for `k` = `i + 1` in 1 to 16: rotate, write `SK[k-1]`, count (R125). -/
def keyCycleRound (i : Fin 16) (s : State) : State :=
  let h := rotateHalves { c := s.workC, d := s.workD } (shiftSchedule.getD i.val 0)
  { s with
    workC := h.c
    workD := h.d
    sk := s.sk.set i (compressHalves h)
    rc := BitVec.ofNat 5 (i.val + 2) }

/-- The end of LOADKEY's cycle 16 (R125). -/
def keyCycleLast (s : State) : State := finish { s with skv := 0xFFFF }

/-- A cycle of LOADKEY that does not end it, by RC: cycles 0 to 15 (R125). With RC = 16 the last cycle waits for the end of the window; RC above 16 is no cycle of LOADKEY, and nothing happens (DESIGN CHOICE, log 9, 21). -/
def keyCycle (s : State) : State :=
  match s.rc.toNat with
  | 0 => keyCycleFirst s
  | k + 1 => if h : k < 15 then keyCycleRound ⟨k, by omega⟩ s else s

/-- The cycle that ends LOADKEY: its cycle 16 (R125). Where the window ends at another RC, the completion is the atomic one (45_interface_commands.md R197, log 21). -/
def keyEnd (s : State) : State :=
  if s.rc = 16 then keyCycleLast (keyCycleRound 15 s) else finish (effectLoadkey s)

/-- Cycle 0 of ENCRYPT and DECRYPT: IP and the split (R181). -/
def cipherCycleFirst (s : State) : State :=
  { s with workL := (splitBlock s.opnd).l, workR := (splitBlock s.opnd).r, rc := 1 }

/-- Cycle `k` of ENCRYPT and DECRYPT, for `k` = `i + 1` in 1 to 16: one round, count (R181). -/
def cipherCycleRound (ord : Fin 16 → Fin 16) (i : Fin 16) (s : State) : State :=
  let h := roundStep { l := s.workL, r := s.workR } (s.sk.get (ord i))
  { s with workL := h.l, workR := h.r, rc := BitVec.ofNat 5 (i.val + 2) }

/-- Cycle 17 of ENCRYPT and DECRYPT: the un-swap, FP, and the end of the command (R181). -/
def cipherCycleLast (s : State) : State :=
  finish { s with dataOut := joinBlock { l := s.workL, r := s.workR } }

/-- A cycle of ENCRYPT or DECRYPT that does not end it, by RC: cycles 0 to 16 (R181). With RC = 17 the last cycle waits for the end of the window; RC above 17 is no cycle of them, and nothing happens (DESIGN CHOICE, log 9, 21). -/
def cipherCycle (ord : Fin 16 → Fin 16) (s : State) : State :=
  match s.rc.toNat with
  | 0 => cipherCycleFirst s
  | k + 1 => if h : k < 16 then cipherCycleRound ord ⟨k, h⟩ s else s

/-- The cycle that ends ENCRYPT or DECRYPT: its cycle 17 (R181). Where the window ends at another RC, the completion is the atomic one, by the given effect (45_interface_commands.md R197, log 21). -/
def cipherEnd (effect : State → State) (s : State) : State :=
  if s.rc = 17 then cipherCycleLast s else finish (effect s)

/-- An engine cycle that leaves BUSY = 1. NOP, WRSUBKEY and RDSUBKEY only wait. -/
def workCycle (s : State) : State :=
  match s.pendOp with
  | .nop => s
  | .loadkey => keyCycle s
  | .encrypt => cipherCycle orderFwd s
  | .decrypt => cipherCycle orderRev s
  | .wrsubkey => s
  | .rdsubkey => s

/-- The engine cycle at the end of which the command completes (70_reset_and_hazards.md R240). -/
def endCycle (s : State) : State :=
  match s.pendOp with
  | .nop => finish (effectNop s)
  | .loadkey => keyEnd s
  | .encrypt => cipherEnd effectEncrypt s
  | .decrypt => cipherEnd effectDecrypt s
  | .wrsubkey => finish (effectWrsubkey s.pendIdx s)
  | .rdsubkey => finish (effectRdsubkey s.pendIdx s)

/-- One cycle of the BUSY window goes by. -/
def countCycle (s : State) : State := { s with window := s.window - 1 }

/-- One engine cycle of the command in flight: the last of its BUSY window ends it (R240). A window of 0 is one of 1 (DESIGN CHOICE, log 21). -/
def engineCycle (s : State) : State :=
  if s.window ≤ 1 then endCycle s else workCycle (countCycle s)

/-- An engine cycle while BUSY = 1; the idle engine does nothing (R196), so L, R, C, D and RC stay: DESIGN CHOICE, unsafe (U9, log 6). -/
def engineTick (s : State) : State := if s.busy then engineCycle s else s

/-- The state with the working registers, which "are not architectural" (10_state.md R36), and the model's window counter set aside. -/
def withoutWork (s : State) : State :=
  { s with workL := 0, workR := 0, workC := 0, workD := 0, rc := 0, window := 0 }

end Sys2Proof.Machine
end

