-- ==== Sys2Proof/Machine/HostPort.lean ====
section
/-! DEFINITION. The host port, the engine's turn, reset and the clock: what each input does (20_memory.md R52, R53; 45_interface_commands.md R190, R196, R201; 70_reset_and_hazards.md R230 to R232, R242). -/

namespace Sys2Proof.Machine

/-- `Issue(w)`: BUSY is looked at first, then the word, then the key (R190, 60_exceptions.md R215). -/
def issue (w : Word) (s : State) : Result :=
  if s.busy then .next (dropWhileBusy s)
  else
    match decode w with
    | .illegal _ => .next (reject errIllegalCmd s)
    | .legal i => exec i s

/-- `RegWrite(a, v)` (R53). -/
def regWrite (a : Addr) (v : Word) (s : State) : Result :=
  if a = 0x0 then issue v s
  else if a = 0x1 then .next (statusWrite v s)
  else .next (dataWrite a v s)

/-- One host access (R52, R53, R200). -/
def hostAccess (a : Access) (s : State) : Result :=
  match a with
  | .read addr => .next (hostRead addr s)
  | .write addr v => regWrite addr v s

/-- `Complete()`: the command in flight is performed and ends; with nothing in flight it is not enabled, and its turn changes nothing (R196, log 3). -/
def complete (s : State) : Result := if s.busy then exec (pending s) s else .next s

/-- One clock cycle: the host's access first, then the engine's cycle if a command was in flight when the cycle began (R242, 20_memory.md R62, log 12). -/
def clockCycle (a : Option Access) (s : State) : Result :=
  let o := match a with
    | none => .next s
    | some access => hostAccess access s
  if s.busy then andThen o engineTick else o

/-- The host's access in an input, if it has one. -/
def accessOf (e : Input) : Option Access :=
  match e with
  | .host a => some a
  | .complete => none
  | .clock a => a
  | .reset => none
  | .rst _ => none

/-- What the host reads while the pin is high: 0 (R232). -/
def readDataInReset (e : Input) (s : State) : Word :=
  match accessOf e with
  | some (.read _) => 0
  | some (.write _ _) => s.rdata
  | none => s.rdata

/-- The level of the pin after an input (R232). -/
def pinAfter (e : Input) (s : State) : Bool :=
  match e with
  | .host _ => s.rst
  | .complete => s.rst
  | .clock _ => s.rst
  | .reset => s.rst
  | .rst level => level

/-- An input while the pin is high: every register is held at its reset value, writes are ignored, reads return 0 (R232). -/
def heldInReset (e : Input) (s : State) : State :=
  { resetRegs s with rst := pinAfter e s, rdata := readDataInReset e s }

/-- The pin changes while it was low: a rising level resets the machine (R232). DESIGN CHOICE, unsafe: the registers are reset at the rise itself, with no clock cycle in between, so a rise and a fall right after it reset the machine (log 11). -/
def drivePin (level : Bool) (s : State) : State :=
  if level then { resetRegs s with rst := true } else s

/-- An input while the pin is low (R201). -/
def takeLive (e : Input) (s : State) : Result :=
  match e with
  | .host a => hostAccess a s
  | .complete => complete s
  | .clock a => clockCycle a s
  | .reset => .next (resetRegs s)
  | .rst level => .next (drivePin level s)

/-- An input (R201, R232). -/
def takeInput (e : Input) (s : State) : Result :=
  if s.rst then .next (heldInReset e s) else takeLive e s

/-- No input is waiting: the engine completes if a command is in flight, and otherwise no step is enabled, so the state stays (R196, R202, log 2). -/
def takeNoInput (s : State) : Result :=
  if s.rst then .next (resetRegs s) else complete s

/-- The state once its first input is taken from the list. -/
def withInputs (rest : List Input) (s : State) : State := { s with inputs := rest }

/-- The host's write of a command word, put before every other input, with the pin low so that it takes effect (R70, R232). -/
def withCommandWord (w : Word) (s : State) : State :=
  { s with rst := false, inputs := .host (.write 0x0 w) :: s.inputs }

end Sys2Proof.Machine
end

