-- ==== Sys2Proof/Machine/Step.lean ====
section
/-! DEFINITION. One step of the machine: the first input takes effect (20_memory.md R60, 45_interface_commands.md R201). -/

namespace Sys2Proof.Machine

/-- One atomic step. -/
def step (s : State) : Host.Outcome State Fault Refusal :=
  match s.inputs with
  | [] => takeNoInput s
  | e :: rest => takeInput e (withInputs rest s)

/-- The state whose next step is the host's write of one table word to CMD (log 14). -/
def State.withFetchWord (s : State) (nbits w : Nat) : State :=
  withCommandWord (BitVec.ofNat 64 (w % 2 ^ nbits)) s

end Sys2Proof.Machine
end

