-- ==== Sys2Proof/Machine/HostAsm.lean ====
section
/-! DEFINITION. The host's assembly of 30_encoding.md R79 and its pseudo-instructions (R80), and a host program running against DESCORE (45_interface_commands.md R202). It is notation for sequences of accesses: every effect on DESCORE goes through `step`. Names of host variables and of labels are numbers. -/

namespace Sys2Proof.Machine

/-- The register names of R79. -/
inductive HostReg where
  | cmd
  | status
  | keyIn
  | dataIn
  | dataOut
  | subkeyIo
  | skvalid
  deriving DecidableEq, Repr

/-- `addr(reg)` (20_memory.md R51). -/
def regAddr (r : HostReg) : Addr :=
  match r with
  | .cmd => 0x0
  | .status => 0x1
  | .keyIn => 0x2
  | .dataIn => 0x3
  | .dataOut => 0x4
  | .subkeyIo => 0x5
  | .skvalid => 0x6

/-- The value of a `WR`: a number, or a name read before (as in `DEC c -> p`). -/
inductive HostValue where
  | imm (v : Word)
  | var (x : Nat)
  deriving DecidableEq, Repr

/-- A statement (R79). -/
inductive HostStmt where
  /-- `WR reg, value`. -/
  | wr (r : HostReg) (v : HostValue)
  /-- `RD reg -> name`. -/
  | rd (r : HostReg) (x : Nat)
  /-- A command mnemonic, with its index if it has one. -/
  | command (i : Instr)
  /-- `label:`. -/
  | label (l : Nat)
  /-- `BNZ name, mask, label`. -/
  | bnz (x : Nat) (mask : Word) (l : Nat)
  deriving DecidableEq, Repr

/-- `WAIT`: poll until BUSY = 0 (R80); `l` and `x` are a label and a name used nowhere else. -/
def asmWait (l x : Nat) : List HostStmt := [.label l, .rd .status x, .bnz x 1 l]

/-- `CLRST` (R80). -/
def asmClrst : List HostStmt := [.wr .status (.imm 0xFA)]

/-- `SETKEY k` (R80). -/
def asmSetkey (k : HostValue) (l x : Nat) : List HostStmt := [.wr .keyIn k, .command .loadkey] ++ asmWait l x

/-- `ENC p -> c` (R80). -/
def asmEnc (p : HostValue) (c l x : Nat) : List HostStmt :=
  [.wr .dataIn p, .command .encrypt] ++ asmWait l x ++ [.rd .dataOut c]

/-- `DEC c -> p` (R80). -/
def asmDec (c : HostValue) (p l x : Nat) : List HostStmt :=
  [.wr .dataIn c, .command .decrypt] ++ asmWait l x ++ [.rd .dataOut p]

/-- `PUTSK i, k` (R80). -/
def asmPutsk (i : SubkeyIdx) (k : HostValue) (l x : Nat) : List HostStmt :=
  [.wr .subkeyIo k, .command (.wrsubkey i)] ++ asmWait l x

/-- `GETSK i -> k` (R80). -/
def asmGetsk (i : SubkeyIdx) (k l x : Nat) : List HostStmt :=
  [.command (.rdsubkey i)] ++ asmWait l x ++ [.rd .subkeyIo k]

/-- A host program, where it stands, its variables (the newest value of a name first), and the DESCORE it drives. -/
structure HostSystem where
  prog : List HostStmt
  pos : Nat
  vars : List (Nat × Word)
  device : State
  deriving DecidableEq, Repr

/-- The value of a variable, if the program has read it. -/
def varValue (x : Nat) (h : HostSystem) : Option Word := List.lookup x h.vars

/-- A `WR`'s value. -/
def hostValue (v : HostValue) (h : HostSystem) : Option Word :=
  match v with
  | .imm w => some w
  | .var x => varValue x h

/-- Where a label stands in a list of statements. -/
def labelIn (l : Nat) : List HostStmt → Nat → Option Nat
  | [], _ => none
  | st :: rest, k => if st = .label l then some k else labelIn l rest (k + 1)

/-- DESCORE after one input, if its step goes on. -/
def deviceAfter (e : Input) (d : State) : Option State :=
  match step { d with inputs := [e] } with
  | .next t => some t
  | .fault _ => none
  | .refused _ => none

/-- The host writes a word and goes to its next statement. -/
def hostWrites (a : Addr) (v : Word) (h : HostSystem) : Option HostSystem :=
  (deviceAfter (.host (.write a v)) h.device).map (fun d => { h with device := d, pos := h.pos + 1 })

/-- The host reads a word into a variable and goes to its next statement. -/
def hostReads (a : Addr) (x : Nat) (h : HostSystem) : Option HostSystem :=
  (deviceAfter (.host (.read a)) h.device).map
    (fun d => { h with device := d, pos := h.pos + 1, vars := (x, d.rdata) :: h.vars })

/-- A branch: to the label if a masked bit is set (R79). -/
def hostBranch (x : Nat) (mask : Word) (l : Nat) (h : HostSystem) : Option HostSystem :=
  match varValue x h with
  | none => none
  | some v =>
    if v &&& mask = 0 then some { h with pos := h.pos + 1 }
    else (labelIn l h.prog 0).map (fun k => { h with pos := k })

/-- The host's turn: its next statement (R79). A program that uses a name it never read, or a label it does not have, is stuck: none (log 20). A finished program stays where it is (R202). -/
def hostTurn (h : HostSystem) : Option HostSystem :=
  match h.prog[h.pos]? with
  | none => some h
  | some (.wr r v) => (hostValue v h).bind (fun w => hostWrites (regAddr r) w h)
  | some (.rd r x) => hostReads (regAddr r) x h
  | some (.command i) => hostWrites (regAddr .cmd) (encode i) h
  | some (.label _) => some { h with pos := h.pos + 1 }
  | some (.bnz x mask l) => hostBranch x mask l h

/-- The engine's turn (45_interface_commands.md R196). -/
def engineTurn (h : HostSystem) : Option HostSystem :=
  (deviceAfter .complete h.device).map (fun d => { h with device := d })

/-- The run is over and the engine has no step left (R202). -/
def quiescent (h : HostSystem) : Bool := decide (h.prog.length ≤ h.pos) && !h.device.busy

end Sys2Proof.Machine
end

