-- ==== Sys2Proof/Safety.lean ====
section
/-! DEFINITION. What counts as a safe state, and when two states look the same to the host: the terms the statements use. -/

namespace Sys2Proof.Machine

/-- The status fields hold together: ERR is a code that is produced (60_exceptions.md R211), NO_KEY only while a subkey is missing (R213), and while a command is in flight ERR is OK, DONE is 0 and the subkeys it needs are valid (45_interface_commands.md R193, R194). -/
abbrev StatusInv (s : State) : Prop :=
  (s.err = 0x0 ∨ s.err = 0x1 ∨ s.err = 0x2) ∧
  (s.err = 0x2 → s.skv ≠ 0xFFFF) ∧
  (s.busy = true → s.err = 0x0 ∧ s.done = false) ∧
  (s.busy = true → keyReady (pending s) s = true)

/-- While the reset pin is high every register is at its reset value (70_reset_and_hazards.md R232). -/
abbrev PinInv (s : State) : Prop := s.rst = true → s = resetRegs s

/-- How far LOADKEY's cycles have come, by RC: C and D are the halves after RC - 1 rounds, and that many subkeys are written (41_key_schedule.md R125). -/
abbrev KeyProgress (s : State) : Prop :=
  s.rc.toNat ≤ 16 ∧
  (s.rc ≠ 0 →
    KeyHalves.mk s.workC s.workD = halvesAfter s.opnd (s.rc.toNat - 1) ∧
    ∀ j : Fin 16, j.val < s.rc.toNat - 1 → s.sk.get j = (keySchedule s.opnd).get j)

/-- How far ENCRYPT's or DECRYPT's cycles have come, by RC: L and R are the halves after RC - 1 rounds (44_block_cipher.md R181). -/
abbrev CipherProgress (ord : Fin 16 → Fin 16) (s : State) : Prop :=
  s.rc.toNat ≤ 17 ∧
  (s.rc ≠ 0 → Halves.mk s.workL s.workR = roundsAfter s.opnd s.sk ord (s.rc.toNat - 1))

/-- The sequencer's registers belong to the command in flight (41_key_schedule.md R125, 44_block_cipher.md R181). -/
abbrev SequencerInv (s : State) : Prop :=
  (s.busy = true → s.pendOp = .loadkey → KeyProgress s) ∧
  (s.busy = true → s.pendOp = .encrypt → CipherProgress orderFwd s) ∧
  (s.busy = true → s.pendOp = .decrypt → CipherProgress orderRev s)

/-- A safe state. -/
abbrev MachineInv (s : State) : Prop := StatusInv s ∧ PinInv s ∧ SequencerInv s

/-- Two states agree on all that a host access returns now, on the parameters, on the pin and on what happens next. -/
abbrev SamePort (s t : State) : Prop :=
  s.keyIn = t.keyIn ∧ s.dataIn = t.dataIn ∧ s.dataOut = t.dataOut ∧ s.subkeyIo = t.subkeyIo ∧ s.skv = t.skv ∧
  s.busy = t.busy ∧ s.done = t.done ∧ s.ovr = t.ovr ∧ s.err = t.err ∧
  s.lat = t.lat ∧ s.rst = t.rst ∧ s.rdata = t.rdata ∧ s.inputs = t.inputs

/-- Two states differ at most in what the spec leaves unspecified: invalid SK entries (10_state.md R25), the latch, RC and the window while nothing is in flight (R35, R36), and L, R, C, D (R36). -/
abbrev SameToHost (s t : State) : Prop :=
  SamePort s t ∧
  (∀ i : Fin 16, s.skv.getLsbD i.val = true → s.sk.get i = t.sk.get i) ∧
  (s.busy = true → s.pendOp = t.pendOp ∧ s.pendIdx = t.pendIdx ∧ s.opnd = t.opnd ∧ s.rc = t.rc ∧ s.window = t.window)

/-- The next input resets the machine, or the machine is held in reset (R230, R232). -/
abbrev ResetNow (s : State) : Prop :=
  s.rst = true ∨ s.inputs.head? = some .reset ∨ s.inputs.head? = some (.rst true)

/-- `n` steps, each of which goes on, lead from one state to the other. -/
def stepsTo : Nat → State → State → Prop
  | 0, s, t => s = t
  | n + 1, s, t => ∃ u, step s = .next u ∧ stepsTo n u t

/-- The host's access in the next input, if it has one. -/
def nextAccess (s : State) : Option Access := s.inputs.head?.bind accessOf

end Sys2Proof.Machine
end

