-- ==== Sys2Proof/Certificates/Slice0/Obligations.lean ====
section
/-! DEFINITION. The statements for the provers, from the numbered rules of spec/. A next state written as a whole (`{ s with … }`) states the frame: every field that is not named is unchanged. -/

open Sys2Proof Sys2Proof.Machine

/-! ### What a step runs -/

/-- A CMD write that finds the engine idle runs the command its word decodes to, whether it comes as a host step or as the access of a clock cycle. The model's own shape of a step (log 1, 12, 13), over R190 and R201. -/
def Obligations.CommandWriteRunsTheDecodedCommand : Prop :=
  ∀ (s : State) (w : Word) (i : Instr) (rest : List Input),
    s.rst = false → s.busy = false → decode w = .legal i →
    s.inputs = .host (.write 0x0 w) :: rest ∨ s.inputs = .clock (some (.write 0x0 w)) :: rest →
    step s = exec i { s with inputs := rest }

/-- The engine's turn runs the command in flight; with none in flight it changes nothing (R196; what an idle turn or an empty list of inputs does is the model's choice, log 2, 3). -/
def Obligations.EngineTurnRunsThePendingCommand : Prop :=
  ∀ (s : State) (rest : List Input),
    s.rst = false → s.inputs = .complete :: rest ∨ (s.inputs = [] ∧ rest = []) →
    (s.busy = true → step s = exec (pending s) { s with inputs := rest }) ∧
    (s.busy = false → step s = .next { s with inputs := rest })

/-- A word placed by `withFetchWord` is what the next step takes: it is dropped while a command is in flight, and otherwise its command runs (log 14). -/
def Obligations.PlacedWordIsTheNextCommand : Prop :=
  ∀ (s : State) (i : Instr),
    (s.busy = false → step (s.withFetchWord 64 (encode i).toNat) = exec i { s with rst := false }) ∧
    (s.busy = true → step (s.withFetchWord 64 (encode i).toNat) = .next { s with rst := false, ovr := true })

/-- Every step goes on: none faults and none is refused (R201, R210, R216), and none changes the latency parameters: R241 has them fixed, and the field that holds them is the model's own (log 16). -/
def Obligations.EveryStepGoesOn : Prop := ∀ s : State, ∃ t : State, step s = .next t ∧ t.lat = s.lat

/-! ### Encoding -/

/-- Decoding and encoding are inverse to each other over all 64-bit words and all commands. -/
def Obligations.DecodeIsTheInverseOfEncode : Prop :=
  ∀ (w : Word) (i : Instr), decode w = .legal i ↔ encode i = w

/-- R75: the mask-and-match test, the field form and the decoder accept the same words, and no word matches two rows. -/
def Obligations.LegalWordsAreExactlyTheFieldForms : Prop :=
  ∀ w : Word,
    (legal w = true ↔
      w.extractLsb' 8 56 = 0 ∧
        ((w.extractLsb' 0 4 ∈ [0x0#4, 0x1#4, 0x2#4, 0x3#4] ∧ w.extractLsb' 4 4 = 0) ∨
          w.extractLsb' 0 4 ∈ [0x4#4, 0x5#4])) ∧
    (legal w = true ↔ ∃ i : Instr, decode w = .legal i) ∧
    (legal w = true ↔ (fieldsOf w).wf = true) ∧
    opcodeRows.Pairwise (fun a b => ¬(rowMatches w a = true ∧ rowMatches w b = true))

/-- R74's full command words. -/
def Obligations.CommandWordsAreThoseOfTheTable : Prop :=
  encode .nop = 0x0000000000000000 ∧
  encode .loadkey = 0x0000000000000001 ∧
  encode .encrypt = 0x0000000000000002 ∧
  encode .decrypt = 0x0000000000000003 ∧
  (∀ i : SubkeyIdx, encode (.wrsubkey i) = 0x0000000000000004 ||| (i.setWidth 64 <<< 4)) ∧
  (∀ i : SubkeyIdx, encode (.rdsubkey i) = 0x0000000000000005 ||| (i.setWidth 64 <<< 4))

/-- A few words of 95_test_vectors.md V19, legal and illegal. -/
def Obligations.WordsOfTheSpecDecodeAsItSays : Prop :=
  decode 0x0000000000000000 = .legal .nop ∧
  decode 0x0000000000000001 = .legal .loadkey ∧
  decode 0x0000000000000002 = .legal .encrypt ∧
  decode 0x0000000000000003 = .legal .decrypt ∧
  decode 0x00000000000000F4 = .legal (.wrsubkey 15) ∧
  decode 0x0000000000000035 = .legal (.rdsubkey 3) ∧
  decode 0x0000000000000006 = .illegal .reservedOp ∧
  decode 0x0000000000000012 = .illegal .unusedIdx ∧
  decode 0x8000000000000002 = .illegal .reservedBits

/-! ### Issue -/

/-- R190, R191, R193: the outcomes of a CMD write, decided in this order. RC and the BUSY window are left open in the last one: their start values are the model's (log 8, 21). -/
def Obligations.CommandWriteHasFourOutcomes : Prop :=
  ∀ (s : State) (w : Word) (rest : List Input),
    s.rst = false → s.inputs = .host (.write 0x0 w) :: rest →
    (s.busy = true → step s = .next { s with inputs := rest, ovr := true }) ∧
    (s.busy = false → legal w = false → step s = .next { s with inputs := rest, err := 0x1, done := true }) ∧
    (s.busy = false → legal w = true →
      ((w.extractLsb' 0 4 = 0x2 ∨ w.extractLsb' 0 4 = 0x3) ∧ s.skv ≠ 0xFFFF) ∨
        (w.extractLsb' 0 4 = 0x5 ∧ s.skv.getLsbD (w.extractLsb' 4 4).toNat = false) →
      step s = .next { s with inputs := rest, err := 0x2, done := true }) ∧
    (s.busy = false → legal w = true →
      ¬(((w.extractLsb' 0 4 = 0x2 ∨ w.extractLsb' 0 4 = 0x3) ∧ s.skv ≠ 0xFFFF) ∨
        (w.extractLsb' 0 4 = 0x5 ∧ s.skv.getLsbD (w.extractLsb' 4 4).toNat = false)) →
      ∃ (i : Instr) (x : BitVec 5) (n : Nat), encode i = w ∧
        step s = .next { s with
          inputs := rest, pendOp := opOf i, pendIdx := w.extractLsb' 4 4, opnd := operand i s,
          busy := true, done := false, err := 0x0, rc := x, window := n })

/-- R194, R195: an accepted command latches its operation, its index and its operand, sets BUSY, clears DONE and ERR, and leaves the rest. RC and the BUSY window are left open (log 8, 21). -/
def Obligations.AcceptedCommandsCaptureTheirOperand : Prop :=
  ∀ (s : State) (idx : SubkeyIdx), s.busy = false →
    (∃ x n, exec .nop s = .next { s with
      pendOp := .nop, pendIdx := 0, opnd := 0, busy := true, done := false, err := 0x0, rc := x, window := n }) ∧
    (∃ x n, exec .loadkey s = .next { s with
      pendOp := .loadkey, pendIdx := 0, opnd := s.keyIn, busy := true, done := false, err := 0x0, rc := x, window := n }) ∧
    (s.skv = 0xFFFF → ∃ x n, exec .encrypt s = .next { s with
      pendOp := .encrypt, pendIdx := 0, opnd := s.dataIn, busy := true, done := false, err := 0x0, rc := x, window := n }) ∧
    (s.skv = 0xFFFF → ∃ x n, exec .decrypt s = .next { s with
      pendOp := .decrypt, pendIdx := 0, opnd := s.dataIn, busy := true, done := false, err := 0x0, rc := x, window := n }) ∧
    (∃ x n, exec (.wrsubkey idx) s = .next { s with
      pendOp := .wrsubkey, pendIdx := idx, opnd := s.subkeyIo.setWidth 64, busy := true, done := false, err := 0x0, rc := x, window := n }) ∧
    (s.skv.getLsbD idx.toNat = true → ∃ x n, exec (.rdsubkey idx) s = .next { s with
      pendOp := .rdsubkey, pendIdx := idx, opnd := 0, busy := true, done := false, err := 0x0, rc := x, window := n })

/-- R213: ENCRYPT, DECRYPT and RDSUBKEY with a missing subkey set ERR to NO_KEY and DONE to 1, and nothing else changes. -/
def Obligations.MissingSubkeysAreRejectedWithNoKey : Prop :=
  ∀ (s : State) (idx : SubkeyIdx), s.busy = false →
    (s.skv ≠ 0xFFFF → exec .encrypt s = .next { s with err := 0x2, done := true }) ∧
    (s.skv ≠ 0xFFFF → exec .decrypt s = .next { s with err := 0x2, done := true }) ∧
    (s.skv.getLsbD idx.toNat = false → exec (.rdsubkey idx) s = .next { s with err := 0x2, done := true })

/-! ### Completion

A completion here is the atomic one. That it leaves the latch, the working registers and the window as they were is the model's choice (log 5, 6, 21): the spec leaves them at any value. -/

/-- R198: NOP in flight completes with no effect but BUSY and DONE (what else stays: log 5, 6, 21). -/
def Obligations.NopCompletes : Prop :=
  ∀ s : State, s.busy = true → pending s = .nop →
    exec .nop s = .next { s with busy := false, done := true }

/-- R121: LOADKEY in flight fills all sixteen subkeys from the captured key and validates them (what else stays: log 5, 6, 21). -/
def Obligations.LoadkeyCompletes : Prop :=
  ∀ s : State, s.busy = true → pending s = .loadkey →
    exec .loadkey s = .next { s with sk := keySchedule s.opnd, skv := 0xFFFF, busy := false, done := true }

/-- R178, R179: a cipher command in flight puts the cipher of the captured block into DATA_OUT, ENCRYPT with the subkeys forward, DECRYPT with subkey 15 first (that L, R, C, D, RC, the latch and the window stay is the model's choice, log 5, 6, 21). -/
def Obligations.CipherCommandsComplete : Prop :=
  ∀ s : State, s.busy = true →
    (pending s = .encrypt →
      exec .encrypt s = .next { s with dataOut := cipher s.opnd s.sk (fun i => i), busy := false, done := true }) ∧
    (pending s = .decrypt →
      exec .decrypt s = .next { s with dataOut := cipher s.opnd s.sk (fun i => 15 - i), busy := false, done := true })

/-- R122: WRSUBKEY i in flight writes the low 48 bits of the captured operand into SK[i], sets SKV[i], and leaves every other entry and valid bit (what else stays: log 5, 6, 21). -/
def Obligations.WrsubkeyCompletes : Prop :=
  ∀ (s : State) (idx : SubkeyIdx), s.busy = true → pending s = .wrsubkey idx →
    ∃ (sk' : SubkeySet) (skv' : BitVec 16),
      exec (.wrsubkey idx) s = .next { s with sk := sk', skv := skv', busy := false, done := true } ∧
      (∀ j : Fin 16, sk'.get j = if j.val = idx.toNat then s.opnd.extractLsb' 0 48 else s.sk.get j) ∧
      (∀ j : Nat, j < 16 → skv'.getLsbD j = (decide (j = idx.toNat) || s.skv.getLsbD j))

/-- R123: RDSUBKEY i in flight copies SK[i] into SUBKEY_IO (what else stays: log 5, 6, 21). -/
def Obligations.RdsubkeyCompletes : Prop :=
  ∀ (s : State) (idx : SubkeyIdx), s.busy = true → pending s = .rdsubkey idx →
    exec (.rdsubkey idx) s = .next { s with subkeyIo := s.sk.get ⟨idx.toNat, idx.isLt⟩, busy := false, done := true }

/-- A command written to an idle engine whose turn comes next has its whole effect, on the registers as they stood at the write (R190, R195 to R197). The working registers and the window are left open (log 6, 8, 21); that the latch keeps the command after its completion is the model's choice (log 5). -/
def Obligations.CommandsRunFromIssueToCompletion : Prop :=
  ∀ (s : State) (i : Instr) (rest : List Input),
    s.rst = false → s.busy = false → keyReady i s = true →
    s.inputs = .host (.write 0x0 (encode i)) :: .complete :: rest →
    ∃ t u : State, step s = .next t ∧ step t = .next u ∧
      withoutWork u = withoutWork { s with
        inputs := rest, pendOp := opOf i, pendIdx := idxOf i, opnd := operand i s,
        busy := false, done := true, err := 0x0,
        sk := u.sk, skv := u.skv, dataOut := u.dataOut, subkeyIo := u.subkeyIo } ∧
      u.sk = (match i with
        | .loadkey => keySchedule s.keyIn
        | .wrsubkey idx => s.sk.set idx.toNat s.subkeyIo idx.isLt
        | .nop => s.sk
        | .encrypt => s.sk
        | .decrypt => s.sk
        | .rdsubkey _ => s.sk) ∧
      u.skv = (match i with
        | .loadkey => 0xFFFF
        | .wrsubkey idx => s.skv ||| (1 <<< idx.toNat)
        | .nop => s.skv
        | .encrypt => s.skv
        | .decrypt => s.skv
        | .rdsubkey _ => s.skv) ∧
      u.dataOut = (match i with
        | .encrypt => cipher s.dataIn s.sk orderFwd
        | .decrypt => cipher s.dataIn s.sk orderRev
        | .nop => s.dataOut
        | .loadkey => s.dataOut
        | .wrsubkey _ => s.dataOut
        | .rdsubkey _ => s.dataOut) ∧
      u.subkeyIo = (match i with
        | .rdsubkey idx => s.sk.get ⟨idx.toNat, idx.isLt⟩
        | .nop => s.subkeyIo
        | .loadkey => s.subkeyIo
        | .encrypt => s.subkeyIo
        | .decrypt => s.subkeyIo
        | .wrsubkey _ => s.subkeyIo)

/-- R237: a write to KEY_IN, DATA_IN or SUBKEY_IO while a command is in flight has no effect on it: before or after the completion, the state that results is the same. SUBKEY_IO while RDSUBKEY is in flight is the one register both of them write. -/
def Obligations.OperandsAreCapturedAtIssue : Prop :=
  ∀ (s : State) (a : Addr) (v : Word) (rest : List Input),
    s.rst = false → s.busy = true → a = 0x2 ∨ a = 0x3 ∨ a = 0x5 →
    (s.pendOp = .rdsubkey → a ≠ 0x5) →
    ∃ t t' u : State,
      step { s with inputs := .host (.write a v) :: .complete :: rest } = .next t ∧ step t = .next u ∧
      step { s with inputs := .complete :: .host (.write a v) :: rest } = .next t' ∧ step t' = .next u

/-! ### The register map -/

/-- R52: `RegRead`, address by address, at any time; a read changes no register. -/
def Obligations.RegisterReadsFollowTheMap : Prop :=
  ∀ (s : State) (a : Addr) (rest : List Input),
    s.rst = false → s.inputs = .host (.read a) :: rest →
    ∃ v : Word, step s = .next { s with inputs := rest, rdata := v } ∧
      (a = 0x0 → v = 0) ∧
      (a = 0x1 → v = (s.err ++ BitVec.ofBool s.ovr ++ BitVec.ofBool (decide (s.skv = 0xFFFF)) ++
        BitVec.ofBool s.done ++ BitVec.ofBool s.busy : BitVec 8).setWidth 64) ∧
      (a = 0x2 → v = s.keyIn) ∧
      (a = 0x3 → v = s.dataIn) ∧
      (a = 0x4 → v = s.dataOut) ∧
      (a = 0x5 → v = s.subkeyIo.setWidth 64) ∧
      (a = 0x6 → v = s.skv.setWidth 64) ∧
      (7 ≤ a.toNat → v = 0)

/-- R53: `RegWrite`, address by address, at any time. -/
def Obligations.RegisterWritesFollowTheMap : Prop :=
  ∀ (s : State) (a : Addr) (v : Word) (rest : List Input),
    s.rst = false → s.inputs = .host (.write a v) :: rest →
    (a = 0x0 → step s = issue v { s with inputs := rest }) ∧
    (a = 0x1 → step s = .next (statusWrite v { s with inputs := rest })) ∧
    (a = 0x2 → step s = .next { s with inputs := rest, keyIn := v }) ∧
    (a = 0x3 → step s = .next { s with inputs := rest, dataIn := v }) ∧
    (a = 0x4 → step s = .next { s with inputs := rest }) ∧
    (a = 0x5 → step s = .next { s with inputs := rest, subkeyIo := v.extractLsb' 0 48 }) ∧
    (a = 0x6 → step s = .next { s with inputs := rest }) ∧
    (7 ≤ a.toNat → step s = .next { s with inputs := rest })

/-- R54: the reserved addresses read 0 and ignore writes, with no error and no STATUS bit. -/
def Obligations.ReservedAddressesReadZeroAndIgnoreWrites : Prop :=
  ∀ (s : State) (a : Addr) (v : Word) (rest : List Input), s.rst = false → 7 ≤ a.toNat →
    (s.inputs = .host (.read a) :: rest → step s = .next { s with inputs := rest, rdata := 0 }) ∧
    (s.inputs = .host (.write a v) :: rest → step s = .next { s with inputs := rest })

/-- R199: a STATUS write clears DONE, OVR and each ERR bit where a 1 is written, and nothing else, at any time. -/
def Obligations.StatusWriteIsWriteOneToClear : Prop :=
  ∀ (s : State) (v : Word) (rest : List Input),
    s.rst = false → s.inputs = .host (.write 0x1 v) :: rest →
    ∃ (d o : Bool) (e : BitVec 4),
      step s = .next { s with inputs := rest, done := d, ovr := o, err := e } ∧
      d = (if v.getLsbD 1 = true then false else s.done) ∧
      o = (if v.getLsbD 3 = true then false else s.ovr) ∧
      (∀ k : Nat, k < 4 → e.getLsbD k = (if v.getLsbD (4 + k) = true then false else s.err.getLsbD k)) ∧
      (v = 0 → d = s.done ∧ o = s.ovr ∧ e = s.err)

/-- R30: STATUS.KSV reads as 1 exactly when SKV = 0xFFFF, and 0 after reset; the other STATUS bits are their fields (R27), and `irq` is DONE (R40). The values after reset are the spec's own derivation. -/
def Obligations.StatusBitsAreTheirFields : Prop :=
  (∀ s : State,
    ((statusWord s).getLsbD 2 = true ↔ s.skv = 0xFFFF) ∧
    (statusWord s).getLsbD 0 = s.busy ∧
    (statusWord s).getLsbD 1 = s.done ∧
    (statusWord s).getLsbD 3 = s.ovr ∧
    (statusWord s).extractLsb' 4 4 = s.err ∧
    (statusWord s).extractLsb' 8 56 = 0 ∧
    irq s = s.done) ∧
  statusWord State.reset = 0 ∧ irq State.reset = false

/-- R57: byte `j` of a block is `v[63-8j : 56-8j]`, packing and unpacking are inverse, and DES position 1 is the most significant bit of byte 0. -/
def Obligations.BlocksArePackedBigEndian : Prop :=
  (∀ (bytes : Vector (BitVec 8) 8) (j : Fin 8), (packBlock bytes).extractLsb' (56 - 8 * j.val) 8 = bytes.get j) ∧
  (∀ (bytes : Vector (BitVec 8) 8) (j : Fin 8), (unpackBlock (packBlock bytes)).get j = bytes.get j) ∧
  (∀ v : Word, packBlock (unpackBlock v) = v) ∧
  (∀ bytes : Vector (BitVec 8) 8, desPos (packBlock bytes) 1 = (bytes.get 0).msb)

/-! ### Whole-machine rules -/

/-- R26: only reset clears a valid bit; a valid bit is set only by LOADKEY or by WRSUBKEY of that index. R25: only LOADKEY, and WRSUBKEY of that index at its completion, write an SK entry. What reset does to the entries is left open. -/
def Obligations.SubkeysAndValidBitsAreWrittenByLoadsOnly : Prop :=
  ∀ (s t : State), step s = .next t → ¬ResetNow s → ∀ i : Fin 16,
    (s.skv.getLsbD i.val = true → t.skv.getLsbD i.val = true) ∧
    (s.skv.getLsbD i.val = false → t.skv.getLsbD i.val = true →
      s.busy = true ∧ t.busy = false ∧
        (pending s = .loadkey ∨ ∃ idx : SubkeyIdx, pending s = .wrsubkey idx ∧ idx.toNat = i.val)) ∧
    (t.sk.get i ≠ s.sk.get i →
      s.busy = true ∧
        (pending s = .loadkey ∨
          (t.busy = false ∧ ∃ idx : SubkeyIdx, pending s = .wrsubkey idx ∧ idx.toNat = i.val)))

/-- R23: only the completion of ENCRYPT or DECRYPT, and reset, change DATA_OUT; reset makes it 0. -/
def Obligations.DataOutIsWrittenByCipherCompletionOnly : Prop :=
  ∀ (s t : State), step s = .next t →
    (ResetNow s → t.dataOut = 0) ∧
    (¬ResetNow s → t.dataOut ≠ s.dataOut →
      s.busy = true ∧ t.busy = false ∧ (s.pendOp = .encrypt ∨ s.pendOp = .decrypt))

/-- R31: OVR is set by a CMD write while BUSY = 1 and by nothing else, and cleared by a write of 1 to STATUS bit 3 or by reset and by nothing else. -/
def Obligations.OverrunFlagIsSticky : Prop :=
  ∀ (s t : State), step s = .next t →
    (ResetNow s → t.ovr = false) ∧
    (¬ResetNow s →
      (t.ovr = true ↔
        (s.busy = true ∧ ∃ w, nextAccess s = some (.write 0x0 w)) ∨
        (s.ovr = true ∧ ∀ v, nextAccess s = some (.write 0x1 v) → v.getLsbD 3 = false)))

/-- R28, R29: BUSY rises with an accepted issue, which clears DONE, and falls with a completion, which sets DONE; otherwise DONE rises only when a CMD write is rejected and falls only when 1 is written to STATUS bit 1. Reset clears both. -/
def Obligations.BusyAndDoneFollowIssueAndCompletion : Prop :=
  ∀ (s t : State), step s = .next t →
    (ResetNow s → t.busy = false ∧ t.done = false) ∧
    (¬ResetNow s → s.busy = false → t.busy = true → t.done = false ∧ ∃ w, nextAccess s = some (.write 0x0 w) ∧ legal w = true) ∧
    (¬ResetNow s → s.busy = true → t.busy = false → t.done = true) ∧
    (¬ResetNow s → s.busy = t.busy → s.done = false → t.done = true →
      s.busy = false ∧ (t.err = 0x1 ∨ t.err = 0x2) ∧ ∃ w, nextAccess s = some (.write 0x0 w)) ∧
    (¬ResetNow s → s.busy = t.busy → s.done = true → t.done = false →
      ∃ v, nextAccess s = some (.write 0x1 v) ∧ v.getLsbD 1 = true)

/-- R32: ERR changes only with the issue of a command while BUSY = 0, with a STATUS write, or with reset; a completion leaves it. -/
def Obligations.ErrIsWrittenByIssueAndStatusWriteOnly : Prop :=
  ∀ (s t : State), step s = .next t →
    (ResetNow s → t.err = 0) ∧
    (¬ResetNow s → t.err ≠ s.err →
      (s.busy = false ∧ ∃ w, nextAccess s = some (.write 0x0 w)) ∨
      ∃ v, nextAccess s = some (.write 0x1 v) ∧ t.err = s.err &&& ~~~(v.extractLsb' 4 4))

/-! ### Reset -/

/-- R230: `Reset()` puts every register the spec gives a value to that value in one step, and after it the commands that need subkeys are rejected with NO_KEY. -/
def Obligations.ResetReachesTheResetState : Prop :=
  ∀ (s : State) (rest : List Input), s.inputs = .reset :: rest →
    ∃ t : State, step s = .next t ∧
      t.keyIn = 0 ∧ t.dataIn = 0 ∧ t.dataOut = 0 ∧ t.subkeyIo = 0 ∧ t.skv = 0x0000 ∧
      t.busy = false ∧ t.done = false ∧ t.ovr = false ∧ t.err = 0 ∧
      statusWord t = 0 ∧ skvalidWord t = 0 ∧ irq t = false ∧
      exec .encrypt t = .next { t with err := 0x2, done := true } ∧
      exec .decrypt t = .next { t with err := 0x2, done := true } ∧
      ∀ idx : SubkeyIdx, exec (.rdsubkey idx) t = .next { t with err := 0x2, done := true }

/-- R231, the spec's own derivation: reset abandons the command in flight: what it leaves does not depend on what the machine held. That it does not depend on SK, the latch and the working registers either is the model's choice of reset values (log 4, 5, 6). -/
def Obligations.ResetForgetsTheCommandInFlight : Prop :=
  ∀ (s s' : State) (rest : List Input),
    s.inputs = .reset :: rest → s'.inputs = .reset :: rest → s.lat = s'.lat → s.rst = s'.rst → s.rdata = s'.rdata →
    step s = step s'

/-- R232: while the pin is high every register the spec gives a reset value holds it, whatever the input and also with none waiting, writes are ignored and reads return 0; the first access after the pin falls takes effect. That the pin's level is an input of its own, and that it changes with no other input, is the model's choice (log 11). -/
def Obligations.ResetPinHoldsTheMachine : Prop :=
  (∀ (s : State) (e : Input) (rest : List Input),
    s.inputs = e :: rest → s.rst = true ∨ e = .rst true →
    ∃ t : State, step s = .next t ∧ t.inputs = rest ∧
      t.keyIn = 0 ∧ t.dataIn = 0 ∧ t.dataOut = 0 ∧ t.subkeyIo = 0 ∧ t.skv = 0 ∧
      t.busy = false ∧ t.done = false ∧ t.ovr = false ∧ t.err = 0 ∧
      (t.rst = false ↔ e = .rst false) ∧
      ((∃ a, accessOf e = some (.read a)) → t.rdata = 0)) ∧
  (∀ s : State, s.rst = true → s.inputs = [] →
    ∃ t : State, step s = .next t ∧ t.inputs = [] ∧ t.rst = true ∧
      t.keyIn = 0 ∧ t.dataIn = 0 ∧ t.dataOut = 0 ∧ t.subkeyIo = 0 ∧ t.skv = 0 ∧
      t.busy = false ∧ t.done = false ∧ t.ovr = false ∧ t.err = 0) ∧
  (∀ (s : State) (a : Access) (e : Input) (rest : List Input),
    s.rst = true → s.inputs = .rst false :: e :: rest → e = .host a ∨ e = .clock (some a) →
    ∃ t : State, step s = .next t ∧ t.inputs = e :: rest ∧ step t = hostAccess a { t with inputs := rest })

/-! ### Invariants -/

/-- The reset state is safe. -/
def Obligations.ResetStateIsSafe : Prop := MachineInv State.reset

/-- Every step from a state whose status fields hold together leads to such a state: no reserved ERR code is reached (R211), and ERR = NO_KEY implies KSV = 0 (R213). -/
def Obligations.EveryStepKeepsTheStatusInvariant : Prop :=
  ∀ s t : State, StatusInv s → step s = .next t → StatusInv t

/-- Every step keeps the registers at their reset values while the pin is high. -/
def Obligations.EveryStepKeepsThePinInvariant : Prop :=
  ∀ s t : State, PinInv s → step s = .next t → PinInv t

/-- Every step keeps L, R, C, D, RC and the subkeys written so far in step with the command in flight (R125, R181), whatever host accesses fall between the cycles. That it survives an acceptance rests on RC = 0 there (log 8). -/
def Obligations.EveryStepKeepsTheSequencerInvariant : Prop :=
  ∀ s t : State, SequencerInv s → step s = .next t → SequencerInv t

/-! ### The cycle-level sequencer

The latency parameters are a field of the state (log 16), so these hold whatever their values; a parameter of 0 is left out. That the cycle of the accepted CMD write is none of the command's cycles is read from R242 (log 12). -/

/-- R240 to R242: the default parameters; and from the clock cycle of its accepted CMD write, a command is in flight for as many further cycles as its parameter says, less one, and complete after that many, whatever the key, the data, the index and the host's accesses in those cycles. -/
def Obligations.CommandsTakeTheirLatency : Prop :=
  State.reset.lat = { nop := 1, ks := 17, cipher := 18, sk := 1 } ∧
  ∀ (s : State) (i : Instr) (accesses : List (Option Access)) (rest : List Input),
    s.rst = false → s.busy = false → keyReady i s = true →
    0 < latency (opOf i) s → accesses.length ≤ latency (opOf i) s →
    s.inputs = .clock (some (.write 0x0 (encode i))) :: (accesses.map .clock ++ rest) →
    ∃ t : State, stepsTo (accesses.length + 1) s t ∧ t.inputs = rest ∧
      (t.busy = true ↔ accesses.length < latency (opOf i) s)

/-- R125, R181: after `k` clock cycles of a command, RC is `k`, and C and D (for LOADKEY) or L and R (for ENCRYPT and DECRYPT) are the halves after `k - 1` rounds of the captured operand, as long as the command's window and the sequencer's own cycles last. It rests on RC = 0 at acceptance (log 8). -/
def Obligations.SequencerGoesOneRoundACycle : Prop :=
  ∀ (s : State) (i : Instr) (k : Nat) (rest : List Input),
    s.rst = false → s.busy = false → keyReady i s = true → 0 < k → k < latency (opOf i) s →
    (i = .loadkey ∧ k ≤ 16) ∨ ((i = .encrypt ∨ i = .decrypt) ∧ k ≤ 17) →
    s.inputs = .clock (some (.write 0x0 (encode i))) :: (List.replicate k (.clock none) ++ rest) →
    ∃ t : State, stepsTo (k + 1) s t ∧ t.rc.toNat = k ∧
      (i = .loadkey →
        KeyHalves.mk t.workC t.workD = halvesAfter s.keyIn (k - 1) ∧
        ∀ j : Fin 16, t.sk.get j = if j.val < k - 1 then (keySchedule s.keyIn).get j else s.sk.get j) ∧
      (i = .encrypt → Halves.mk t.workL t.workR = roundsAfter s.dataIn s.sk orderFwd (k - 1)) ∧
      (i = .decrypt → Halves.mk t.workL t.workR = roundsAfter s.dataIn s.sk orderRev (k - 1))

/-- R126, R181: run clock cycle by clock cycle from its accepted CMD write to the end of its window, a command leaves what the write and the atomic completion leave, the working registers and the window aside. -/
def Obligations.SequencerRefinesTheAtomicCompletion : Prop :=
  ∀ (s : State) (i : Instr) (rest : List Input),
    s.rst = false → s.busy = false → keyReady i s = true → 0 < latency (opOf i) s →
    ∃ t u : State,
      stepsTo (latency (opOf i) s + 1)
        { s with inputs := .clock (some (.write 0x0 (encode i))) :: (List.replicate (latency (opOf i) s) (.clock none) ++ rest) } t ∧
      stepsTo 2 { s with inputs := .host (.write 0x0 (encode i)) :: .complete :: rest } u ∧
      withoutWork t = withoutWork u ∧ t.busy = false

/-- R197: at whatever point of its cycles a clock cycle ends the command, it leaves what the atomic completion from there leaves, the working registers and the window aside. -/
def Obligations.LastCycleEqualsTheAtomicCompletion : Prop :=
  ∀ (s t u : State) (rest : List Input),
    SequencerInv s → s.rst = false → s.busy = true →
    step { s with inputs := .clock none :: rest } = .next t → t.busy = false →
    step { s with inputs := .complete :: rest } = .next u →
    withoutWork t = withoutWork u

/-- R62, R242: in one clock cycle the host's access comes first and the engine's cycle second, so a CMD write in the cycle in which a command completes is still dropped; in a cycle without an access the engine's cycle is all, and in one that begins with the engine idle the access is all, so that the cycle of an accepted CMD write runs no engine cycle, which is read from R242 (log 12). -/
def Obligations.HostAccessComesFirstInACycle : Prop :=
  ∀ (s : State) (rest : List Input), s.rst = false →
    (s.busy = true → s.inputs = .clock none :: rest → step s = .next (engineTick { s with inputs := rest })) ∧
    (s.busy = true → ∀ a : Access, s.inputs = .clock (some a) :: rest →
      ∃ t : State, hostAccess a { s with inputs := rest } = .next t ∧ step s = .next (engineTick t)) ∧
    (s.busy = true → ∀ w : Word, s.inputs = .clock (some (.write 0x0 w)) :: rest →
      step s = .next (engineTick { s with inputs := rest, ovr := true })) ∧
    (s.busy = false → s.inputs = .clock none :: rest → step s = .next { s with inputs := rest }) ∧
    (s.busy = false → ∀ a : Access, s.inputs = .clock (some a) :: rest →
      step s = hostAccess a { s with inputs := rest })

/-! ### What the host cannot see -/

/-- R25: states that differ only where the spec leaves the contents unspecified stay so under every step, and the host reads the same values from both. -/
def Obligations.UnspecifiedContentsAreUnobservable : Prop :=
  ∀ s s' t t' : State, MachineInv s → MachineInv s' → SameToHost s s' →
    step s = .next t → step s' = .next t' → SameToHost t t'

/-! ### The datapath -/

/-- R101: destination position j+1 of the M-bit result is source position T[j]. -/
def Obligations.PermuteSelectsThePositionsOfItsTable : Prop :=
  ∀ (n : Nat) (v : BitVec n) (table : List Nat) (j : Nat) (h : j < table.length),
    desPos (permute table.length v table) (j + 1) = desPos v table[j]

/-- R102, the spec's own derivation: permute is linear over GF(2), and commutes with complement for every table that meets R100. -/
def Obligations.PermuteIsLinear : Prop :=
  ∀ (n m : Nat) (a b : BitVec n) (table : List Nat),
    permute m (a ^^^ b) table = permute m a table ^^^ permute m b table ∧
    permute m (0 : BitVec n) table = 0 ∧
    (tableOk n m table = true → permute m (~~~a) table = ~~~(permute m a table))

/-- R103: the inverse table of a bijection undoes it; IP and FP are each other's inverses; P is a bijection. -/
def Obligations.InverseTableUndoesThePermutation : Prop :=
  (∀ (n : Nat) (v : BitVec n) (table : List Nat), tableBijective n table = true →
    (inverseTable table).length = n ∧
    (∀ (j : Nat) (h : j < table.length), (inverseTable table)[table[j] - 1]? = some (j + 1)) ∧
    permute n (permute n v table) (inverseTable table) = v) ∧
  inverseTable tableIP = tableFP ∧ inverseTable tableFP = tableIP ∧ tableBijective 32 tableP = true

/-- R172, which the spec marks as derived: FP inverts IP, in both orders. -/
def Obligations.FinalPermutationInvertsTheInitialOne : Prop :=
  ∀ x : Word,
    permute 64 (permute 64 x tableIP) tableFP = x ∧ permute 64 (permute 64 x tableFP) tableIP = x

/-- R100, R152: every table has its widths and its entries in range, and each row of each S-box is a permutation of 0 to 15. -/
def Obligations.TablesMeetTheirShapes : Prop :=
  tableOk 64 64 tableIP = true ∧ tableOk 64 64 tableFP = true ∧ tableOk 64 56 tablePC1 = true ∧
  tableOk 56 48 tablePC2 = true ∧ tableOk 32 48 tableE = true ∧ tableOk 32 32 tableP = true ∧
  shiftSchedule.length = 16 ∧ shiftSchedule.sum = 28 ∧
  sboxTables.length = 8 ∧
  (∀ table ∈ sboxTables, table.length = 64 ∧ ∀ row ∈ [0, 1, 2, 3],
    ((table.drop (16 * row)).take 16).Perm (List.range 16))

/-- R114: rotl28 is the source's masked formula on numbers, and it wraps at bit 28. -/
def Obligations.RotationIsTheMaskedFormula : Prop :=
  (∀ (x : KeyHalf) (s : Nat), s = 1 ∨ s = 2 →
    (rotl28 x s).toNat = ((x.toNat <<< s) ||| (x.toNat >>> (28 - s))) &&& (2 ^ 28 - 1) ∧
    rotl28 x s = x.rotateLeft s) ∧
  rotl28 0x8000000 1 = 0x0000001 ∧ rotl28 0xC000000 2 = 0x0000003

/-- R112, R115, R116, R118: C0 and D0 are the halves of PC-1's result, the halves rotate from round to round, each by the same amount, and subkey i is C(i+1) ++ D(i+1) through PC-2. -/
def Obligations.SubkeysAreCompressedRotatedHalves : Prop :=
  ∀ (key : Word) (i : Fin 16),
    (halvesAfter key 0).c = (permute 56 key tablePC1).extractLsb' 28 28 ∧
    (halvesAfter key 0).d = (permute 56 key tablePC1).extractLsb' 0 28 ∧
    (halvesAfter key (i.val + 1)).c = rotl28 (halvesAfter key i.val).c (shiftSchedule.getD i.val 0) ∧
    (halvesAfter key (i.val + 1)).d = rotl28 (halvesAfter key i.val).d (shiftSchedule.getD i.val 0) ∧
    (keySchedule key).get i =
      permute 48 ((halvesAfter key (i.val + 1)).c ++ (halvesAfter key (i.val + 1)).d : BitVec 56) tablePC2

/-- R111 (that no subkey depends on them is the spec's own derivation): PC-1 omits the least significant bit of each key byte, no subkey depends on one, and LOADKEY accepts any key. -/
def Obligations.ParityBitsDoNotMatter : Prop :=
  (∀ p ∈ [8, 16, 24, 32, 40, 48, 56, 64], p ∉ tablePC1) ∧
  (∀ k k' : Word, k &&& 0xFEFEFEFEFEFEFEFE = k' &&& 0xFEFEFEFEFEFEFEFE → keySchedule k = keySchedule k') ∧
  (∀ s : State, s.busy = false → ∃ t, exec .loadkey s = .next t ∧ t.busy = true ∧ t.err = 0 ∧ t.opnd = s.keyIn)

/-- R120, the spec's own derivations: the halves return after round 15; the subkeys depend on the key only through C0 and D0; halves of all zeros or all ones give sixteen equal subkeys, as for the four keys named. -/
def Obligations.KeyHalvesReturnAfterSixteenRounds : Prop :=
  (∀ key : Word, halvesAfter key 16 = splitKey key) ∧
  (∀ k k' : Word, splitKey k = splitKey k' → keySchedule k = keySchedule k') ∧
  (∀ key : Word,
    ((splitKey key).c = 0 ∨ (splitKey key).c = 0xFFFFFFF) → ((splitKey key).d = 0 ∨ (splitKey key).d = 0xFFFFFFF) →
    ∀ i j : Fin 16, (keySchedule key).get i = (keySchedule key).get j) ∧
  (∀ key ∈ [0x0101010101010101#64, 0xFEFEFEFEFEFEFEFE#64, 0xE0E0E0E0F1F1F1F1#64, 0x1F1F1F1F0E0E0E0E#64],
    ((splitKey key).c = 0 ∨ (splitKey key).c = 0xFFFFFFF) ∧ ((splitKey key).d = 0 ∨ (splitKey key).d = 0xFFFFFFF))

/-- R153: output nibble g is the entry of table g at the row and column of chunk g, and depends on that chunk only, which is the spec's own derivation; SBOX is not linear over GF(2), which the spec marks as from general knowledge. -/
def Obligations.SboxLanesAreIndependent : Prop :=
  (∀ (x : BitVec 48) (g : Fin 8),
    (sbox x).extractLsb' (28 - 4 * g.val) 4 =
      BitVec.ofNat 4 ((sboxTables.getD g.val []).getD
        ((2 * (x.getLsbD (47 - 6 * g.val)).toNat + (x.getLsbD (42 - 6 * g.val)).toNat) * 16 +
          (x.extractLsb' (43 - 6 * g.val) 4).toNat) 0)) ∧
  (∀ (x y : BitVec 48) (g : Fin 8),
    x.extractLsb' (42 - 6 * g.val) 6 = y.extractLsb' (42 - 6 * g.val) 6 →
    (sbox x).extractLsb' (28 - 4 * g.val) 4 = (sbox y).extractLsb' (28 - 4 * g.val) 4) ∧
  (∃ x y : BitVec 48, sbox (x ^^^ y) ≠ sbox x ^^^ sbox y)

/-- R173 to R176: one round takes both new halves from the old pair, `CIPHER` runs IP, the split, sixteen rounds with the subkeys in the given order, the un-swap and FP; `f` is E, the XOR, the substitution and P (R160). -/
def Obligations.CipherIsSixteenRoundsBetweenIpAndFp : Prop :=
  (∀ (l r : Half) (k : Subkey), roundStep ⟨l, r⟩ k = ⟨r, l ^^^ feistel r k⟩) ∧
  (∀ (r : Half) (k : Subkey), feistel r k = permute 32 (sbox (permute 48 r tableE ^^^ k)) tableP) ∧
  (∀ (b : Word) (ks : SubkeySet) (ord : Fin 16 → Fin 16),
    roundsAfter b ks ord 0 = ⟨(permute 64 b tableIP).extractLsb' 32 32, (permute 64 b tableIP).extractLsb' 0 32⟩ ∧
    (∀ i : Fin 16, roundsAfter b ks ord (i.val + 1) = roundStep (roundsAfter b ks ord i.val) (ks.get (ord i))) ∧
    cipher b ks ord = permute 64 ((roundsAfter b ks ord 16).r ++ (roundsAfter b ks ord 16).l : BitVec 64) tableFP) ∧
  (∀ i : Fin 16, (orderFwd i).val = i.val ∧ (orderRev i).val = 15 - i.val)

/-- R180, which the spec marks as derived: deciphering undoes enciphering under every key, and under any sixteen subkeys in both orders. -/
def Obligations.DecryptionUndoesEncryption : Prop :=
  (∀ p k : Word, cipher (cipher p (keySchedule k) orderFwd) (keySchedule k) orderRev = p) ∧
  (∀ (p : Word) (ks : SubkeySet), cipher (cipher p ks orderFwd) ks orderRev = p) ∧
  (∀ (p : Word) (ks : SubkeySet), cipher (cipher p ks orderRev) ks orderFwd = p)

/-- R182, the spec's own derivation: enciphering over a host-reversed subkey set is deciphering over the forward one, as functions and as completions of the two commands in flight. -/
def Obligations.HostReversalEqualsEngineReversal : Prop :=
  (∀ (b : Word) (ks ks' : SubkeySet), (∀ i : Fin 16, ks'.get i = ks.get (15 - i)) →
    cipher b ks' orderFwd = cipher b ks orderRev) ∧
  (∀ s s' : State, s.busy = true → s'.busy = true → pending s = .decrypt → pending s' = .encrypt → s.opnd = s'.opnd →
    (∀ i : Fin 16, s'.sk.get i = s.sk.get (15 - i)) →
    ∃ t t' : State, exec .decrypt s = .next t ∧ exec .encrypt s' = .next t' ∧ t'.dataOut = t.dataOut)

/-- R183, the spec's own derivation: complementing the block and every subkey complements the result; complementing the key complements every subkey; so the ciphertext of ~P under ~K is ~C. -/
def Obligations.ComplementingInputsComplementsTheOutput : Prop :=
  (∀ (p : Word) (ks ks' : SubkeySet) (ord : Fin 16 → Fin 16), (∀ i : Fin 16, ks'.get i = ~~~(ks.get i)) →
    cipher (~~~p) ks' ord = ~~~(cipher p ks ord)) ∧
  (∀ (k : Word) (i : Fin 16), (keySchedule (~~~k)).get i = ~~~((keySchedule k).get i)) ∧
  (∀ p k : Word, cipher (~~~p) (keySchedule (~~~k)) orderFwd = ~~~(cipher p (keySchedule k) orderFwd))

/-- R180 at the command level: DECRYPT of the DATA_OUT of an ENCRYPT, with no change to SK in between, returns the original DATA_IN. -/
def Obligations.DecryptCommandRestoresTheBlock : Prop :=
  ∀ (s : State) (v : Word) (rest : List Input),
    s.rst = false → s.busy = false → s.skv = 0xFFFF →
    s.inputs = .host (.write 0x0 0x2) :: .complete :: .host (.write 0x3 v) :: .host (.write 0x0 0x3) :: .complete :: rest →
    ∃ t₁ t₂ t₃ t₄ t₅ : State,
      step s = .next t₁ ∧ step t₁ = .next t₂ ∧ step t₂ = .next t₃ ∧ step t₃ = .next t₄ ∧ step t₄ = .next t₅ ∧
      t₅.inputs = rest ∧ t₅.busy = false ∧ t₅.done = true ∧ t₅.err = 0 ∧
      (v = t₂.dataOut → t₅.dataOut = s.dataIn)

/-! ### The host's assembly -/

/-- R80's WAIT, placed anywhere in a program that uses its label once: from its `RD STATUS`, two turns of the host lead back to the label while BUSY = 1, and past the WAIT once BUSY = 0; DESCORE's registers do not change. -/
def Obligations.WaitPollsUntilTheEngineIsIdle : Prop :=
  ∀ (h : HostSystem) (before after : List HostStmt) (l x : Nat),
    h.prog = before ++ asmWait l x ++ after → .label l ∉ before →
    h.pos = before.length + 1 → h.device.rst = false →
    ∃ h₁ h₂ : HostSystem, hostTurn h = some h₁ ∧ hostTurn h₁ = some h₂ ∧
      h₂.prog = h.prog ∧
      h₂.pos = (if h.device.busy = true then before.length else before.length + 3) ∧
      h₂.device = { h.device with inputs := [], rdata := statusWord h.device }

/-- R80's CLRST: the host's one statement clears DONE, OVR and all of ERR, and nothing else. -/
def Obligations.ClrstClearsTheStatus : Prop :=
  ∀ (h : HostSystem) (after : List HostStmt),
    h.prog = asmClrst ++ after → h.pos = 0 → h.device.rst = false →
    hostTurn h = some { h with
      pos := 1, device := { h.device with inputs := [], done := false, ovr := false, err := 0 } }
end

