-- ==== Sys2Proof/Laws/Datapath.lean ====
section
/-! SUPPORT. The datapath functions one entry at a time: the equations an induction over a table, the shifts or the rounds needs. -/

namespace Sys2Proof.Laws

open Sys2Proof Sys2Proof.Machine

@[simp] theorem permute_nil {n : Nat} (m : Nat) (v : BitVec n) : permute m v [] = 0 := rfl

/-- One more entry at the end of the table is one more bit at the low end of the result. -/
theorem permute_append_entry {n : Nat} (m : Nat) (v : BitVec n) (table : List Nat) (t : Nat) :
    permute m v (table ++ [t]) = permuteStep m v (permute m v table) t := by
  simp [permute, List.foldl_append]

@[simp] theorem scheduleFrom_nil (h : KeyHalves) : scheduleFrom h [] = [] := rfl

@[simp] theorem scheduleFrom_cons (h : KeyHalves) (s : Nat) (rest : List Nat) :
    scheduleFrom h (s :: rest) = compressHalves (rotateHalves h s) :: scheduleFrom (rotateHalves h s) rest := rfl

@[simp] theorem runRounds_nil (ks : SubkeySet) (ord : Fin 16 → Fin 16) (h : Halves) : runRounds ks ord [] h = h := rfl

@[simp] theorem runRounds_cons (ks : SubkeySet) (ord : Fin 16 → Fin 16) (i : Fin 16) (rest : List (Fin 16)) (h : Halves) :
    runRounds ks ord (i :: rest) h = runRounds ks ord rest (roundStep h (ks.get (ord i))) := rfl

theorem runRounds_append (ks : SubkeySet) (ord : Fin 16 → Fin 16) (a b : List (Fin 16)) (h : Halves) :
    runRounds ks ord (a ++ b) h = runRounds ks ord b (runRounds ks ord a h) := by
  induction a generalizing h with
  | nil => rfl
  | cons i rest ih => simpa using ih _

@[simp] theorem halvesAfter_zero (key : Word) : halvesAfter key 0 = splitKey key := rfl

@[simp] theorem roundsAfter_zero (block : Word) (ks : SubkeySet) (ord : Fin 16 → Fin 16) :
    roundsAfter block ks ord 0 = splitBlock block := rfl

/-- The halves go on by one round step. -/
theorem roundsAfter_succ (block : Word) (ks : SubkeySet) (ord : Fin 16 → Fin 16) (i : Fin 16) :
    roundsAfter block ks ord (i.val + 1) = roundStep (roundsAfter block ks ord i.val) (ks.get (ord i)) := by
  fin_cases i <;> rfl

/-- The cipher is the join of the halves after all sixteen rounds. -/
theorem cipher_eq_joinBlock (block : Word) (ks : SubkeySet) (ord : Fin 16 → Fin 16) :
    cipher block ks ord = joinBlock (roundsAfter block ks ord 16) := rfl

end Sys2Proof.Laws
end

