-- ==== Sys2Proof/Laws/State.lean ====
section
/-! SUPPORT. One lemma per field per update: what each named update leaves in each field of State, so that no proof unfolds a record update. -/

namespace Sys2Proof.Laws

open Sys2Proof Sys2Proof.Machine

/-! ### resetRegs -/

@[simp] theorem resetRegs_keyIn (s : State) : (resetRegs s).keyIn = 0 := rfl
@[simp] theorem resetRegs_dataIn (s : State) : (resetRegs s).dataIn = 0 := rfl
@[simp] theorem resetRegs_dataOut (s : State) : (resetRegs s).dataOut = 0 := rfl
@[simp] theorem resetRegs_subkeyIo (s : State) : (resetRegs s).subkeyIo = 0 := rfl
@[simp] theorem resetRegs_sk (s : State) : (resetRegs s).sk = Vector.replicate 16 0 := rfl
@[simp] theorem resetRegs_skv (s : State) : (resetRegs s).skv = 0 := rfl
@[simp] theorem resetRegs_busy (s : State) : (resetRegs s).busy = false := rfl
@[simp] theorem resetRegs_done (s : State) : (resetRegs s).done = false := rfl
@[simp] theorem resetRegs_ovr (s : State) : (resetRegs s).ovr = false := rfl
@[simp] theorem resetRegs_err (s : State) : (resetRegs s).err = 0 := rfl
@[simp] theorem resetRegs_pendOp (s : State) : (resetRegs s).pendOp = .nop := rfl
@[simp] theorem resetRegs_pendIdx (s : State) : (resetRegs s).pendIdx = 0 := rfl
@[simp] theorem resetRegs_opnd (s : State) : (resetRegs s).opnd = 0 := rfl
@[simp] theorem resetRegs_workL (s : State) : (resetRegs s).workL = 0 := rfl
@[simp] theorem resetRegs_workR (s : State) : (resetRegs s).workR = 0 := rfl
@[simp] theorem resetRegs_workC (s : State) : (resetRegs s).workC = 0 := rfl
@[simp] theorem resetRegs_workD (s : State) : (resetRegs s).workD = 0 := rfl
@[simp] theorem resetRegs_rc (s : State) : (resetRegs s).rc = 0 := rfl
@[simp] theorem resetRegs_rst (s : State) : (resetRegs s).rst = s.rst := rfl
@[simp] theorem resetRegs_lat (s : State) : (resetRegs s).lat = s.lat := rfl
@[simp] theorem resetRegs_window (s : State) : (resetRegs s).window = 0 := rfl
@[simp] theorem resetRegs_rdata (s : State) : (resetRegs s).rdata = s.rdata := rfl
@[simp] theorem resetRegs_inputs (s : State) : (resetRegs s).inputs = s.inputs := rfl

/-! ### hostRead -/

@[simp] theorem hostRead_keyIn (a : Addr) (s : State) : (hostRead a s).keyIn = s.keyIn := rfl
@[simp] theorem hostRead_dataIn (a : Addr) (s : State) : (hostRead a s).dataIn = s.dataIn := rfl
@[simp] theorem hostRead_dataOut (a : Addr) (s : State) : (hostRead a s).dataOut = s.dataOut := rfl
@[simp] theorem hostRead_subkeyIo (a : Addr) (s : State) : (hostRead a s).subkeyIo = s.subkeyIo := rfl
@[simp] theorem hostRead_sk (a : Addr) (s : State) : (hostRead a s).sk = s.sk := rfl
@[simp] theorem hostRead_skv (a : Addr) (s : State) : (hostRead a s).skv = s.skv := rfl
@[simp] theorem hostRead_busy (a : Addr) (s : State) : (hostRead a s).busy = s.busy := rfl
@[simp] theorem hostRead_done (a : Addr) (s : State) : (hostRead a s).done = s.done := rfl
@[simp] theorem hostRead_ovr (a : Addr) (s : State) : (hostRead a s).ovr = s.ovr := rfl
@[simp] theorem hostRead_err (a : Addr) (s : State) : (hostRead a s).err = s.err := rfl
@[simp] theorem hostRead_pendOp (a : Addr) (s : State) : (hostRead a s).pendOp = s.pendOp := rfl
@[simp] theorem hostRead_pendIdx (a : Addr) (s : State) : (hostRead a s).pendIdx = s.pendIdx := rfl
@[simp] theorem hostRead_opnd (a : Addr) (s : State) : (hostRead a s).opnd = s.opnd := rfl
@[simp] theorem hostRead_workL (a : Addr) (s : State) : (hostRead a s).workL = s.workL := rfl
@[simp] theorem hostRead_workR (a : Addr) (s : State) : (hostRead a s).workR = s.workR := rfl
@[simp] theorem hostRead_workC (a : Addr) (s : State) : (hostRead a s).workC = s.workC := rfl
@[simp] theorem hostRead_workD (a : Addr) (s : State) : (hostRead a s).workD = s.workD := rfl
@[simp] theorem hostRead_rc (a : Addr) (s : State) : (hostRead a s).rc = s.rc := rfl
@[simp] theorem hostRead_rst (a : Addr) (s : State) : (hostRead a s).rst = s.rst := rfl
@[simp] theorem hostRead_lat (a : Addr) (s : State) : (hostRead a s).lat = s.lat := rfl
@[simp] theorem hostRead_window (a : Addr) (s : State) : (hostRead a s).window = s.window := rfl
@[simp] theorem hostRead_rdata (a : Addr) (s : State) : (hostRead a s).rdata = regRead a s := rfl
@[simp] theorem hostRead_inputs (a : Addr) (s : State) : (hostRead a s).inputs = s.inputs := rfl

/-! ### statusWrite -/

@[simp] theorem statusWrite_keyIn (v : Word) (s : State) : (statusWrite v s).keyIn = s.keyIn := rfl
@[simp] theorem statusWrite_dataIn (v : Word) (s : State) : (statusWrite v s).dataIn = s.dataIn := rfl
@[simp] theorem statusWrite_dataOut (v : Word) (s : State) : (statusWrite v s).dataOut = s.dataOut := rfl
@[simp] theorem statusWrite_subkeyIo (v : Word) (s : State) : (statusWrite v s).subkeyIo = s.subkeyIo := rfl
@[simp] theorem statusWrite_sk (v : Word) (s : State) : (statusWrite v s).sk = s.sk := rfl
@[simp] theorem statusWrite_skv (v : Word) (s : State) : (statusWrite v s).skv = s.skv := rfl
@[simp] theorem statusWrite_busy (v : Word) (s : State) : (statusWrite v s).busy = s.busy := rfl
@[simp] theorem statusWrite_done (v : Word) (s : State) : (statusWrite v s).done = (s.done && !v.getLsbD 1) := rfl
@[simp] theorem statusWrite_ovr (v : Word) (s : State) : (statusWrite v s).ovr = (s.ovr && !v.getLsbD 3) := rfl
@[simp] theorem statusWrite_err (v : Word) (s : State) : (statusWrite v s).err = s.err &&& ~~~(v.extractLsb' 4 4) := rfl
@[simp] theorem statusWrite_pendOp (v : Word) (s : State) : (statusWrite v s).pendOp = s.pendOp := rfl
@[simp] theorem statusWrite_pendIdx (v : Word) (s : State) : (statusWrite v s).pendIdx = s.pendIdx := rfl
@[simp] theorem statusWrite_opnd (v : Word) (s : State) : (statusWrite v s).opnd = s.opnd := rfl
@[simp] theorem statusWrite_workL (v : Word) (s : State) : (statusWrite v s).workL = s.workL := rfl
@[simp] theorem statusWrite_workR (v : Word) (s : State) : (statusWrite v s).workR = s.workR := rfl
@[simp] theorem statusWrite_workC (v : Word) (s : State) : (statusWrite v s).workC = s.workC := rfl
@[simp] theorem statusWrite_workD (v : Word) (s : State) : (statusWrite v s).workD = s.workD := rfl
@[simp] theorem statusWrite_rc (v : Word) (s : State) : (statusWrite v s).rc = s.rc := rfl
@[simp] theorem statusWrite_rst (v : Word) (s : State) : (statusWrite v s).rst = s.rst := rfl
@[simp] theorem statusWrite_lat (v : Word) (s : State) : (statusWrite v s).lat = s.lat := rfl
@[simp] theorem statusWrite_window (v : Word) (s : State) : (statusWrite v s).window = s.window := rfl
@[simp] theorem statusWrite_rdata (v : Word) (s : State) : (statusWrite v s).rdata = s.rdata := rfl
@[simp] theorem statusWrite_inputs (v : Word) (s : State) : (statusWrite v s).inputs = s.inputs := rfl

/-! ### dropWhileBusy -/

@[simp] theorem dropWhileBusy_keyIn (s : State) : (dropWhileBusy s).keyIn = s.keyIn := rfl
@[simp] theorem dropWhileBusy_dataIn (s : State) : (dropWhileBusy s).dataIn = s.dataIn := rfl
@[simp] theorem dropWhileBusy_dataOut (s : State) : (dropWhileBusy s).dataOut = s.dataOut := rfl
@[simp] theorem dropWhileBusy_subkeyIo (s : State) : (dropWhileBusy s).subkeyIo = s.subkeyIo := rfl
@[simp] theorem dropWhileBusy_sk (s : State) : (dropWhileBusy s).sk = s.sk := rfl
@[simp] theorem dropWhileBusy_skv (s : State) : (dropWhileBusy s).skv = s.skv := rfl
@[simp] theorem dropWhileBusy_busy (s : State) : (dropWhileBusy s).busy = s.busy := rfl
@[simp] theorem dropWhileBusy_done (s : State) : (dropWhileBusy s).done = s.done := rfl
@[simp] theorem dropWhileBusy_ovr (s : State) : (dropWhileBusy s).ovr = true := rfl
@[simp] theorem dropWhileBusy_err (s : State) : (dropWhileBusy s).err = s.err := rfl
@[simp] theorem dropWhileBusy_pendOp (s : State) : (dropWhileBusy s).pendOp = s.pendOp := rfl
@[simp] theorem dropWhileBusy_pendIdx (s : State) : (dropWhileBusy s).pendIdx = s.pendIdx := rfl
@[simp] theorem dropWhileBusy_opnd (s : State) : (dropWhileBusy s).opnd = s.opnd := rfl
@[simp] theorem dropWhileBusy_workL (s : State) : (dropWhileBusy s).workL = s.workL := rfl
@[simp] theorem dropWhileBusy_workR (s : State) : (dropWhileBusy s).workR = s.workR := rfl
@[simp] theorem dropWhileBusy_workC (s : State) : (dropWhileBusy s).workC = s.workC := rfl
@[simp] theorem dropWhileBusy_workD (s : State) : (dropWhileBusy s).workD = s.workD := rfl
@[simp] theorem dropWhileBusy_rc (s : State) : (dropWhileBusy s).rc = s.rc := rfl
@[simp] theorem dropWhileBusy_rst (s : State) : (dropWhileBusy s).rst = s.rst := rfl
@[simp] theorem dropWhileBusy_lat (s : State) : (dropWhileBusy s).lat = s.lat := rfl
@[simp] theorem dropWhileBusy_window (s : State) : (dropWhileBusy s).window = s.window := rfl
@[simp] theorem dropWhileBusy_rdata (s : State) : (dropWhileBusy s).rdata = s.rdata := rfl
@[simp] theorem dropWhileBusy_inputs (s : State) : (dropWhileBusy s).inputs = s.inputs := rfl

/-! ### reject -/

@[simp] theorem reject_keyIn (code : BitVec 4) (s : State) : (reject code s).keyIn = s.keyIn := rfl
@[simp] theorem reject_dataIn (code : BitVec 4) (s : State) : (reject code s).dataIn = s.dataIn := rfl
@[simp] theorem reject_dataOut (code : BitVec 4) (s : State) : (reject code s).dataOut = s.dataOut := rfl
@[simp] theorem reject_subkeyIo (code : BitVec 4) (s : State) : (reject code s).subkeyIo = s.subkeyIo := rfl
@[simp] theorem reject_sk (code : BitVec 4) (s : State) : (reject code s).sk = s.sk := rfl
@[simp] theorem reject_skv (code : BitVec 4) (s : State) : (reject code s).skv = s.skv := rfl
@[simp] theorem reject_busy (code : BitVec 4) (s : State) : (reject code s).busy = s.busy := rfl
@[simp] theorem reject_done (code : BitVec 4) (s : State) : (reject code s).done = true := rfl
@[simp] theorem reject_ovr (code : BitVec 4) (s : State) : (reject code s).ovr = s.ovr := rfl
@[simp] theorem reject_err (code : BitVec 4) (s : State) : (reject code s).err = code := rfl
@[simp] theorem reject_pendOp (code : BitVec 4) (s : State) : (reject code s).pendOp = s.pendOp := rfl
@[simp] theorem reject_pendIdx (code : BitVec 4) (s : State) : (reject code s).pendIdx = s.pendIdx := rfl
@[simp] theorem reject_opnd (code : BitVec 4) (s : State) : (reject code s).opnd = s.opnd := rfl
@[simp] theorem reject_workL (code : BitVec 4) (s : State) : (reject code s).workL = s.workL := rfl
@[simp] theorem reject_workR (code : BitVec 4) (s : State) : (reject code s).workR = s.workR := rfl
@[simp] theorem reject_workC (code : BitVec 4) (s : State) : (reject code s).workC = s.workC := rfl
@[simp] theorem reject_workD (code : BitVec 4) (s : State) : (reject code s).workD = s.workD := rfl
@[simp] theorem reject_rc (code : BitVec 4) (s : State) : (reject code s).rc = s.rc := rfl
@[simp] theorem reject_rst (code : BitVec 4) (s : State) : (reject code s).rst = s.rst := rfl
@[simp] theorem reject_lat (code : BitVec 4) (s : State) : (reject code s).lat = s.lat := rfl
@[simp] theorem reject_window (code : BitVec 4) (s : State) : (reject code s).window = s.window := rfl
@[simp] theorem reject_rdata (code : BitVec 4) (s : State) : (reject code s).rdata = s.rdata := rfl
@[simp] theorem reject_inputs (code : BitVec 4) (s : State) : (reject code s).inputs = s.inputs := rfl

/-! ### accept -/

@[simp] theorem accept_keyIn (i : Instr) (s : State) : (accept i s).keyIn = s.keyIn := rfl
@[simp] theorem accept_dataIn (i : Instr) (s : State) : (accept i s).dataIn = s.dataIn := rfl
@[simp] theorem accept_dataOut (i : Instr) (s : State) : (accept i s).dataOut = s.dataOut := rfl
@[simp] theorem accept_subkeyIo (i : Instr) (s : State) : (accept i s).subkeyIo = s.subkeyIo := rfl
@[simp] theorem accept_sk (i : Instr) (s : State) : (accept i s).sk = s.sk := rfl
@[simp] theorem accept_skv (i : Instr) (s : State) : (accept i s).skv = s.skv := rfl
@[simp] theorem accept_busy (i : Instr) (s : State) : (accept i s).busy = true := rfl
@[simp] theorem accept_done (i : Instr) (s : State) : (accept i s).done = false := rfl
@[simp] theorem accept_ovr (i : Instr) (s : State) : (accept i s).ovr = s.ovr := rfl
@[simp] theorem accept_err (i : Instr) (s : State) : (accept i s).err = errOk := rfl
@[simp] theorem accept_pendOp (i : Instr) (s : State) : (accept i s).pendOp = opOf i := rfl
@[simp] theorem accept_pendIdx (i : Instr) (s : State) : (accept i s).pendIdx = idxOf i := rfl
@[simp] theorem accept_opnd (i : Instr) (s : State) : (accept i s).opnd = operand i s := rfl
@[simp] theorem accept_workL (i : Instr) (s : State) : (accept i s).workL = s.workL := rfl
@[simp] theorem accept_workR (i : Instr) (s : State) : (accept i s).workR = s.workR := rfl
@[simp] theorem accept_workC (i : Instr) (s : State) : (accept i s).workC = s.workC := rfl
@[simp] theorem accept_workD (i : Instr) (s : State) : (accept i s).workD = s.workD := rfl
@[simp] theorem accept_rc (i : Instr) (s : State) : (accept i s).rc = 0 := rfl
@[simp] theorem accept_rst (i : Instr) (s : State) : (accept i s).rst = s.rst := rfl
@[simp] theorem accept_lat (i : Instr) (s : State) : (accept i s).lat = s.lat := rfl
@[simp] theorem accept_window (i : Instr) (s : State) : (accept i s).window = latency (opOf i) s := rfl
@[simp] theorem accept_rdata (i : Instr) (s : State) : (accept i s).rdata = s.rdata := rfl
@[simp] theorem accept_inputs (i : Instr) (s : State) : (accept i s).inputs = s.inputs := rfl

/-! ### finish -/

@[simp] theorem finish_keyIn (s : State) : (finish s).keyIn = s.keyIn := rfl
@[simp] theorem finish_dataIn (s : State) : (finish s).dataIn = s.dataIn := rfl
@[simp] theorem finish_dataOut (s : State) : (finish s).dataOut = s.dataOut := rfl
@[simp] theorem finish_subkeyIo (s : State) : (finish s).subkeyIo = s.subkeyIo := rfl
@[simp] theorem finish_sk (s : State) : (finish s).sk = s.sk := rfl
@[simp] theorem finish_skv (s : State) : (finish s).skv = s.skv := rfl
@[simp] theorem finish_busy (s : State) : (finish s).busy = false := rfl
@[simp] theorem finish_done (s : State) : (finish s).done = true := rfl
@[simp] theorem finish_ovr (s : State) : (finish s).ovr = s.ovr := rfl
@[simp] theorem finish_err (s : State) : (finish s).err = s.err := rfl
@[simp] theorem finish_pendOp (s : State) : (finish s).pendOp = s.pendOp := rfl
@[simp] theorem finish_pendIdx (s : State) : (finish s).pendIdx = s.pendIdx := rfl
@[simp] theorem finish_opnd (s : State) : (finish s).opnd = s.opnd := rfl
@[simp] theorem finish_workL (s : State) : (finish s).workL = s.workL := rfl
@[simp] theorem finish_workR (s : State) : (finish s).workR = s.workR := rfl
@[simp] theorem finish_workC (s : State) : (finish s).workC = s.workC := rfl
@[simp] theorem finish_workD (s : State) : (finish s).workD = s.workD := rfl
@[simp] theorem finish_rc (s : State) : (finish s).rc = s.rc := rfl
@[simp] theorem finish_rst (s : State) : (finish s).rst = s.rst := rfl
@[simp] theorem finish_lat (s : State) : (finish s).lat = s.lat := rfl
@[simp] theorem finish_window (s : State) : (finish s).window = s.window := rfl
@[simp] theorem finish_rdata (s : State) : (finish s).rdata = s.rdata := rfl
@[simp] theorem finish_inputs (s : State) : (finish s).inputs = s.inputs := rfl

/-! ### writeSubkey -/

@[simp] theorem writeSubkey_keyIn (idx : SubkeyIdx) (k : Subkey) (s : State) : (writeSubkey idx k s).keyIn = s.keyIn := rfl
@[simp] theorem writeSubkey_dataIn (idx : SubkeyIdx) (k : Subkey) (s : State) : (writeSubkey idx k s).dataIn = s.dataIn := rfl
@[simp] theorem writeSubkey_dataOut (idx : SubkeyIdx) (k : Subkey) (s : State) : (writeSubkey idx k s).dataOut = s.dataOut := rfl
@[simp] theorem writeSubkey_subkeyIo (idx : SubkeyIdx) (k : Subkey) (s : State) : (writeSubkey idx k s).subkeyIo = s.subkeyIo := rfl
@[simp] theorem writeSubkey_sk (idx : SubkeyIdx) (k : Subkey) (s : State) : (writeSubkey idx k s).sk = s.sk.set (slotOf idx) k := rfl
@[simp] theorem writeSubkey_skv (idx : SubkeyIdx) (k : Subkey) (s : State) : (writeSubkey idx k s).skv = s.skv ||| (1 <<< idx.toNat) := rfl
@[simp] theorem writeSubkey_busy (idx : SubkeyIdx) (k : Subkey) (s : State) : (writeSubkey idx k s).busy = s.busy := rfl
@[simp] theorem writeSubkey_done (idx : SubkeyIdx) (k : Subkey) (s : State) : (writeSubkey idx k s).done = s.done := rfl
@[simp] theorem writeSubkey_ovr (idx : SubkeyIdx) (k : Subkey) (s : State) : (writeSubkey idx k s).ovr = s.ovr := rfl
@[simp] theorem writeSubkey_err (idx : SubkeyIdx) (k : Subkey) (s : State) : (writeSubkey idx k s).err = s.err := rfl
@[simp] theorem writeSubkey_pendOp (idx : SubkeyIdx) (k : Subkey) (s : State) : (writeSubkey idx k s).pendOp = s.pendOp := rfl
@[simp] theorem writeSubkey_pendIdx (idx : SubkeyIdx) (k : Subkey) (s : State) : (writeSubkey idx k s).pendIdx = s.pendIdx := rfl
@[simp] theorem writeSubkey_opnd (idx : SubkeyIdx) (k : Subkey) (s : State) : (writeSubkey idx k s).opnd = s.opnd := rfl
@[simp] theorem writeSubkey_workL (idx : SubkeyIdx) (k : Subkey) (s : State) : (writeSubkey idx k s).workL = s.workL := rfl
@[simp] theorem writeSubkey_workR (idx : SubkeyIdx) (k : Subkey) (s : State) : (writeSubkey idx k s).workR = s.workR := rfl
@[simp] theorem writeSubkey_workC (idx : SubkeyIdx) (k : Subkey) (s : State) : (writeSubkey idx k s).workC = s.workC := rfl
@[simp] theorem writeSubkey_workD (idx : SubkeyIdx) (k : Subkey) (s : State) : (writeSubkey idx k s).workD = s.workD := rfl
@[simp] theorem writeSubkey_rc (idx : SubkeyIdx) (k : Subkey) (s : State) : (writeSubkey idx k s).rc = s.rc := rfl
@[simp] theorem writeSubkey_rst (idx : SubkeyIdx) (k : Subkey) (s : State) : (writeSubkey idx k s).rst = s.rst := rfl
@[simp] theorem writeSubkey_lat (idx : SubkeyIdx) (k : Subkey) (s : State) : (writeSubkey idx k s).lat = s.lat := rfl
@[simp] theorem writeSubkey_window (idx : SubkeyIdx) (k : Subkey) (s : State) : (writeSubkey idx k s).window = s.window := rfl
@[simp] theorem writeSubkey_rdata (idx : SubkeyIdx) (k : Subkey) (s : State) : (writeSubkey idx k s).rdata = s.rdata := rfl
@[simp] theorem writeSubkey_inputs (idx : SubkeyIdx) (k : Subkey) (s : State) : (writeSubkey idx k s).inputs = s.inputs := rfl

/-! ### effectLoadkey -/

@[simp] theorem effectLoadkey_keyIn (s : State) : (effectLoadkey s).keyIn = s.keyIn := rfl
@[simp] theorem effectLoadkey_dataIn (s : State) : (effectLoadkey s).dataIn = s.dataIn := rfl
@[simp] theorem effectLoadkey_dataOut (s : State) : (effectLoadkey s).dataOut = s.dataOut := rfl
@[simp] theorem effectLoadkey_subkeyIo (s : State) : (effectLoadkey s).subkeyIo = s.subkeyIo := rfl
@[simp] theorem effectLoadkey_sk (s : State) : (effectLoadkey s).sk = keySchedule s.opnd := rfl
@[simp] theorem effectLoadkey_skv (s : State) : (effectLoadkey s).skv = 0xFFFF := rfl
@[simp] theorem effectLoadkey_busy (s : State) : (effectLoadkey s).busy = s.busy := rfl
@[simp] theorem effectLoadkey_done (s : State) : (effectLoadkey s).done = s.done := rfl
@[simp] theorem effectLoadkey_ovr (s : State) : (effectLoadkey s).ovr = s.ovr := rfl
@[simp] theorem effectLoadkey_err (s : State) : (effectLoadkey s).err = s.err := rfl
@[simp] theorem effectLoadkey_pendOp (s : State) : (effectLoadkey s).pendOp = s.pendOp := rfl
@[simp] theorem effectLoadkey_pendIdx (s : State) : (effectLoadkey s).pendIdx = s.pendIdx := rfl
@[simp] theorem effectLoadkey_opnd (s : State) : (effectLoadkey s).opnd = s.opnd := rfl
@[simp] theorem effectLoadkey_workL (s : State) : (effectLoadkey s).workL = s.workL := rfl
@[simp] theorem effectLoadkey_workR (s : State) : (effectLoadkey s).workR = s.workR := rfl
@[simp] theorem effectLoadkey_workC (s : State) : (effectLoadkey s).workC = s.workC := rfl
@[simp] theorem effectLoadkey_workD (s : State) : (effectLoadkey s).workD = s.workD := rfl
@[simp] theorem effectLoadkey_rc (s : State) : (effectLoadkey s).rc = s.rc := rfl
@[simp] theorem effectLoadkey_rst (s : State) : (effectLoadkey s).rst = s.rst := rfl
@[simp] theorem effectLoadkey_lat (s : State) : (effectLoadkey s).lat = s.lat := rfl
@[simp] theorem effectLoadkey_window (s : State) : (effectLoadkey s).window = s.window := rfl
@[simp] theorem effectLoadkey_rdata (s : State) : (effectLoadkey s).rdata = s.rdata := rfl
@[simp] theorem effectLoadkey_inputs (s : State) : (effectLoadkey s).inputs = s.inputs := rfl

/-! ### effectRdsubkey -/

@[simp] theorem effectRdsubkey_keyIn (idx : SubkeyIdx) (s : State) : (effectRdsubkey idx s).keyIn = s.keyIn := rfl
@[simp] theorem effectRdsubkey_dataIn (idx : SubkeyIdx) (s : State) : (effectRdsubkey idx s).dataIn = s.dataIn := rfl
@[simp] theorem effectRdsubkey_dataOut (idx : SubkeyIdx) (s : State) : (effectRdsubkey idx s).dataOut = s.dataOut := rfl
@[simp] theorem effectRdsubkey_subkeyIo (idx : SubkeyIdx) (s : State) : (effectRdsubkey idx s).subkeyIo = readSubkey idx s := rfl
@[simp] theorem effectRdsubkey_sk (idx : SubkeyIdx) (s : State) : (effectRdsubkey idx s).sk = s.sk := rfl
@[simp] theorem effectRdsubkey_skv (idx : SubkeyIdx) (s : State) : (effectRdsubkey idx s).skv = s.skv := rfl
@[simp] theorem effectRdsubkey_busy (idx : SubkeyIdx) (s : State) : (effectRdsubkey idx s).busy = s.busy := rfl
@[simp] theorem effectRdsubkey_done (idx : SubkeyIdx) (s : State) : (effectRdsubkey idx s).done = s.done := rfl
@[simp] theorem effectRdsubkey_ovr (idx : SubkeyIdx) (s : State) : (effectRdsubkey idx s).ovr = s.ovr := rfl
@[simp] theorem effectRdsubkey_err (idx : SubkeyIdx) (s : State) : (effectRdsubkey idx s).err = s.err := rfl
@[simp] theorem effectRdsubkey_pendOp (idx : SubkeyIdx) (s : State) : (effectRdsubkey idx s).pendOp = s.pendOp := rfl
@[simp] theorem effectRdsubkey_pendIdx (idx : SubkeyIdx) (s : State) : (effectRdsubkey idx s).pendIdx = s.pendIdx := rfl
@[simp] theorem effectRdsubkey_opnd (idx : SubkeyIdx) (s : State) : (effectRdsubkey idx s).opnd = s.opnd := rfl
@[simp] theorem effectRdsubkey_workL (idx : SubkeyIdx) (s : State) : (effectRdsubkey idx s).workL = s.workL := rfl
@[simp] theorem effectRdsubkey_workR (idx : SubkeyIdx) (s : State) : (effectRdsubkey idx s).workR = s.workR := rfl
@[simp] theorem effectRdsubkey_workC (idx : SubkeyIdx) (s : State) : (effectRdsubkey idx s).workC = s.workC := rfl
@[simp] theorem effectRdsubkey_workD (idx : SubkeyIdx) (s : State) : (effectRdsubkey idx s).workD = s.workD := rfl
@[simp] theorem effectRdsubkey_rc (idx : SubkeyIdx) (s : State) : (effectRdsubkey idx s).rc = s.rc := rfl
@[simp] theorem effectRdsubkey_rst (idx : SubkeyIdx) (s : State) : (effectRdsubkey idx s).rst = s.rst := rfl
@[simp] theorem effectRdsubkey_lat (idx : SubkeyIdx) (s : State) : (effectRdsubkey idx s).lat = s.lat := rfl
@[simp] theorem effectRdsubkey_window (idx : SubkeyIdx) (s : State) : (effectRdsubkey idx s).window = s.window := rfl
@[simp] theorem effectRdsubkey_rdata (idx : SubkeyIdx) (s : State) : (effectRdsubkey idx s).rdata = s.rdata := rfl
@[simp] theorem effectRdsubkey_inputs (idx : SubkeyIdx) (s : State) : (effectRdsubkey idx s).inputs = s.inputs := rfl

/-! ### effectEncrypt -/

@[simp] theorem effectEncrypt_keyIn (s : State) : (effectEncrypt s).keyIn = s.keyIn := rfl
@[simp] theorem effectEncrypt_dataIn (s : State) : (effectEncrypt s).dataIn = s.dataIn := rfl
@[simp] theorem effectEncrypt_dataOut (s : State) : (effectEncrypt s).dataOut = cipher s.opnd s.sk orderFwd := rfl
@[simp] theorem effectEncrypt_subkeyIo (s : State) : (effectEncrypt s).subkeyIo = s.subkeyIo := rfl
@[simp] theorem effectEncrypt_sk (s : State) : (effectEncrypt s).sk = s.sk := rfl
@[simp] theorem effectEncrypt_skv (s : State) : (effectEncrypt s).skv = s.skv := rfl
@[simp] theorem effectEncrypt_busy (s : State) : (effectEncrypt s).busy = s.busy := rfl
@[simp] theorem effectEncrypt_done (s : State) : (effectEncrypt s).done = s.done := rfl
@[simp] theorem effectEncrypt_ovr (s : State) : (effectEncrypt s).ovr = s.ovr := rfl
@[simp] theorem effectEncrypt_err (s : State) : (effectEncrypt s).err = s.err := rfl
@[simp] theorem effectEncrypt_pendOp (s : State) : (effectEncrypt s).pendOp = s.pendOp := rfl
@[simp] theorem effectEncrypt_pendIdx (s : State) : (effectEncrypt s).pendIdx = s.pendIdx := rfl
@[simp] theorem effectEncrypt_opnd (s : State) : (effectEncrypt s).opnd = s.opnd := rfl
@[simp] theorem effectEncrypt_workL (s : State) : (effectEncrypt s).workL = s.workL := rfl
@[simp] theorem effectEncrypt_workR (s : State) : (effectEncrypt s).workR = s.workR := rfl
@[simp] theorem effectEncrypt_workC (s : State) : (effectEncrypt s).workC = s.workC := rfl
@[simp] theorem effectEncrypt_workD (s : State) : (effectEncrypt s).workD = s.workD := rfl
@[simp] theorem effectEncrypt_rc (s : State) : (effectEncrypt s).rc = s.rc := rfl
@[simp] theorem effectEncrypt_rst (s : State) : (effectEncrypt s).rst = s.rst := rfl
@[simp] theorem effectEncrypt_lat (s : State) : (effectEncrypt s).lat = s.lat := rfl
@[simp] theorem effectEncrypt_window (s : State) : (effectEncrypt s).window = s.window := rfl
@[simp] theorem effectEncrypt_rdata (s : State) : (effectEncrypt s).rdata = s.rdata := rfl
@[simp] theorem effectEncrypt_inputs (s : State) : (effectEncrypt s).inputs = s.inputs := rfl

/-! ### effectDecrypt -/

@[simp] theorem effectDecrypt_keyIn (s : State) : (effectDecrypt s).keyIn = s.keyIn := rfl
@[simp] theorem effectDecrypt_dataIn (s : State) : (effectDecrypt s).dataIn = s.dataIn := rfl
@[simp] theorem effectDecrypt_dataOut (s : State) : (effectDecrypt s).dataOut = cipher s.opnd s.sk orderRev := rfl
@[simp] theorem effectDecrypt_subkeyIo (s : State) : (effectDecrypt s).subkeyIo = s.subkeyIo := rfl
@[simp] theorem effectDecrypt_sk (s : State) : (effectDecrypt s).sk = s.sk := rfl
@[simp] theorem effectDecrypt_skv (s : State) : (effectDecrypt s).skv = s.skv := rfl
@[simp] theorem effectDecrypt_busy (s : State) : (effectDecrypt s).busy = s.busy := rfl
@[simp] theorem effectDecrypt_done (s : State) : (effectDecrypt s).done = s.done := rfl
@[simp] theorem effectDecrypt_ovr (s : State) : (effectDecrypt s).ovr = s.ovr := rfl
@[simp] theorem effectDecrypt_err (s : State) : (effectDecrypt s).err = s.err := rfl
@[simp] theorem effectDecrypt_pendOp (s : State) : (effectDecrypt s).pendOp = s.pendOp := rfl
@[simp] theorem effectDecrypt_pendIdx (s : State) : (effectDecrypt s).pendIdx = s.pendIdx := rfl
@[simp] theorem effectDecrypt_opnd (s : State) : (effectDecrypt s).opnd = s.opnd := rfl
@[simp] theorem effectDecrypt_workL (s : State) : (effectDecrypt s).workL = s.workL := rfl
@[simp] theorem effectDecrypt_workR (s : State) : (effectDecrypt s).workR = s.workR := rfl
@[simp] theorem effectDecrypt_workC (s : State) : (effectDecrypt s).workC = s.workC := rfl
@[simp] theorem effectDecrypt_workD (s : State) : (effectDecrypt s).workD = s.workD := rfl
@[simp] theorem effectDecrypt_rc (s : State) : (effectDecrypt s).rc = s.rc := rfl
@[simp] theorem effectDecrypt_rst (s : State) : (effectDecrypt s).rst = s.rst := rfl
@[simp] theorem effectDecrypt_lat (s : State) : (effectDecrypt s).lat = s.lat := rfl
@[simp] theorem effectDecrypt_window (s : State) : (effectDecrypt s).window = s.window := rfl
@[simp] theorem effectDecrypt_rdata (s : State) : (effectDecrypt s).rdata = s.rdata := rfl
@[simp] theorem effectDecrypt_inputs (s : State) : (effectDecrypt s).inputs = s.inputs := rfl

/-! ### keyCycleFirst -/

@[simp] theorem keyCycleFirst_keyIn (s : State) : (keyCycleFirst s).keyIn = s.keyIn := rfl
@[simp] theorem keyCycleFirst_dataIn (s : State) : (keyCycleFirst s).dataIn = s.dataIn := rfl
@[simp] theorem keyCycleFirst_dataOut (s : State) : (keyCycleFirst s).dataOut = s.dataOut := rfl
@[simp] theorem keyCycleFirst_subkeyIo (s : State) : (keyCycleFirst s).subkeyIo = s.subkeyIo := rfl
@[simp] theorem keyCycleFirst_sk (s : State) : (keyCycleFirst s).sk = s.sk := rfl
@[simp] theorem keyCycleFirst_skv (s : State) : (keyCycleFirst s).skv = s.skv := rfl
@[simp] theorem keyCycleFirst_busy (s : State) : (keyCycleFirst s).busy = s.busy := rfl
@[simp] theorem keyCycleFirst_done (s : State) : (keyCycleFirst s).done = s.done := rfl
@[simp] theorem keyCycleFirst_ovr (s : State) : (keyCycleFirst s).ovr = s.ovr := rfl
@[simp] theorem keyCycleFirst_err (s : State) : (keyCycleFirst s).err = s.err := rfl
@[simp] theorem keyCycleFirst_pendOp (s : State) : (keyCycleFirst s).pendOp = s.pendOp := rfl
@[simp] theorem keyCycleFirst_pendIdx (s : State) : (keyCycleFirst s).pendIdx = s.pendIdx := rfl
@[simp] theorem keyCycleFirst_opnd (s : State) : (keyCycleFirst s).opnd = s.opnd := rfl
@[simp] theorem keyCycleFirst_workL (s : State) : (keyCycleFirst s).workL = s.workL := rfl
@[simp] theorem keyCycleFirst_workR (s : State) : (keyCycleFirst s).workR = s.workR := rfl
@[simp] theorem keyCycleFirst_workC (s : State) : (keyCycleFirst s).workC = (splitKey s.opnd).c := rfl
@[simp] theorem keyCycleFirst_workD (s : State) : (keyCycleFirst s).workD = (splitKey s.opnd).d := rfl
@[simp] theorem keyCycleFirst_rc (s : State) : (keyCycleFirst s).rc = 1 := rfl
@[simp] theorem keyCycleFirst_rst (s : State) : (keyCycleFirst s).rst = s.rst := rfl
@[simp] theorem keyCycleFirst_lat (s : State) : (keyCycleFirst s).lat = s.lat := rfl
@[simp] theorem keyCycleFirst_window (s : State) : (keyCycleFirst s).window = s.window := rfl
@[simp] theorem keyCycleFirst_rdata (s : State) : (keyCycleFirst s).rdata = s.rdata := rfl
@[simp] theorem keyCycleFirst_inputs (s : State) : (keyCycleFirst s).inputs = s.inputs := rfl

/-! ### keyCycleRound -/

@[simp] theorem keyCycleRound_keyIn (i : Fin 16) (s : State) : (keyCycleRound i s).keyIn = s.keyIn := rfl
@[simp] theorem keyCycleRound_dataIn (i : Fin 16) (s : State) : (keyCycleRound i s).dataIn = s.dataIn := rfl
@[simp] theorem keyCycleRound_dataOut (i : Fin 16) (s : State) : (keyCycleRound i s).dataOut = s.dataOut := rfl
@[simp] theorem keyCycleRound_subkeyIo (i : Fin 16) (s : State) : (keyCycleRound i s).subkeyIo = s.subkeyIo := rfl
@[simp] theorem keyCycleRound_sk (i : Fin 16) (s : State) : (keyCycleRound i s).sk = s.sk.set i (compressHalves (rotateHalves ⟨s.workC, s.workD⟩ (shiftSchedule.getD i.val 0))) := rfl
@[simp] theorem keyCycleRound_skv (i : Fin 16) (s : State) : (keyCycleRound i s).skv = s.skv := rfl
@[simp] theorem keyCycleRound_busy (i : Fin 16) (s : State) : (keyCycleRound i s).busy = s.busy := rfl
@[simp] theorem keyCycleRound_done (i : Fin 16) (s : State) : (keyCycleRound i s).done = s.done := rfl
@[simp] theorem keyCycleRound_ovr (i : Fin 16) (s : State) : (keyCycleRound i s).ovr = s.ovr := rfl
@[simp] theorem keyCycleRound_err (i : Fin 16) (s : State) : (keyCycleRound i s).err = s.err := rfl
@[simp] theorem keyCycleRound_pendOp (i : Fin 16) (s : State) : (keyCycleRound i s).pendOp = s.pendOp := rfl
@[simp] theorem keyCycleRound_pendIdx (i : Fin 16) (s : State) : (keyCycleRound i s).pendIdx = s.pendIdx := rfl
@[simp] theorem keyCycleRound_opnd (i : Fin 16) (s : State) : (keyCycleRound i s).opnd = s.opnd := rfl
@[simp] theorem keyCycleRound_workL (i : Fin 16) (s : State) : (keyCycleRound i s).workL = s.workL := rfl
@[simp] theorem keyCycleRound_workR (i : Fin 16) (s : State) : (keyCycleRound i s).workR = s.workR := rfl
@[simp] theorem keyCycleRound_workC (i : Fin 16) (s : State) : (keyCycleRound i s).workC = (rotateHalves ⟨s.workC, s.workD⟩ (shiftSchedule.getD i.val 0)).c := rfl
@[simp] theorem keyCycleRound_workD (i : Fin 16) (s : State) : (keyCycleRound i s).workD = (rotateHalves ⟨s.workC, s.workD⟩ (shiftSchedule.getD i.val 0)).d := rfl
@[simp] theorem keyCycleRound_rc (i : Fin 16) (s : State) : (keyCycleRound i s).rc = BitVec.ofNat 5 (i.val + 2) := rfl
@[simp] theorem keyCycleRound_rst (i : Fin 16) (s : State) : (keyCycleRound i s).rst = s.rst := rfl
@[simp] theorem keyCycleRound_lat (i : Fin 16) (s : State) : (keyCycleRound i s).lat = s.lat := rfl
@[simp] theorem keyCycleRound_window (i : Fin 16) (s : State) : (keyCycleRound i s).window = s.window := rfl
@[simp] theorem keyCycleRound_rdata (i : Fin 16) (s : State) : (keyCycleRound i s).rdata = s.rdata := rfl
@[simp] theorem keyCycleRound_inputs (i : Fin 16) (s : State) : (keyCycleRound i s).inputs = s.inputs := rfl

/-! ### keyCycleLast -/

@[simp] theorem keyCycleLast_keyIn (s : State) : (keyCycleLast s).keyIn = s.keyIn := rfl
@[simp] theorem keyCycleLast_dataIn (s : State) : (keyCycleLast s).dataIn = s.dataIn := rfl
@[simp] theorem keyCycleLast_dataOut (s : State) : (keyCycleLast s).dataOut = s.dataOut := rfl
@[simp] theorem keyCycleLast_subkeyIo (s : State) : (keyCycleLast s).subkeyIo = s.subkeyIo := rfl
@[simp] theorem keyCycleLast_sk (s : State) : (keyCycleLast s).sk = s.sk := rfl
@[simp] theorem keyCycleLast_skv (s : State) : (keyCycleLast s).skv = 0xFFFF := rfl
@[simp] theorem keyCycleLast_busy (s : State) : (keyCycleLast s).busy = false := rfl
@[simp] theorem keyCycleLast_done (s : State) : (keyCycleLast s).done = true := rfl
@[simp] theorem keyCycleLast_ovr (s : State) : (keyCycleLast s).ovr = s.ovr := rfl
@[simp] theorem keyCycleLast_err (s : State) : (keyCycleLast s).err = s.err := rfl
@[simp] theorem keyCycleLast_pendOp (s : State) : (keyCycleLast s).pendOp = s.pendOp := rfl
@[simp] theorem keyCycleLast_pendIdx (s : State) : (keyCycleLast s).pendIdx = s.pendIdx := rfl
@[simp] theorem keyCycleLast_opnd (s : State) : (keyCycleLast s).opnd = s.opnd := rfl
@[simp] theorem keyCycleLast_workL (s : State) : (keyCycleLast s).workL = s.workL := rfl
@[simp] theorem keyCycleLast_workR (s : State) : (keyCycleLast s).workR = s.workR := rfl
@[simp] theorem keyCycleLast_workC (s : State) : (keyCycleLast s).workC = s.workC := rfl
@[simp] theorem keyCycleLast_workD (s : State) : (keyCycleLast s).workD = s.workD := rfl
@[simp] theorem keyCycleLast_rc (s : State) : (keyCycleLast s).rc = s.rc := rfl
@[simp] theorem keyCycleLast_rst (s : State) : (keyCycleLast s).rst = s.rst := rfl
@[simp] theorem keyCycleLast_lat (s : State) : (keyCycleLast s).lat = s.lat := rfl
@[simp] theorem keyCycleLast_window (s : State) : (keyCycleLast s).window = s.window := rfl
@[simp] theorem keyCycleLast_rdata (s : State) : (keyCycleLast s).rdata = s.rdata := rfl
@[simp] theorem keyCycleLast_inputs (s : State) : (keyCycleLast s).inputs = s.inputs := rfl

/-! ### cipherCycleFirst -/

@[simp] theorem cipherCycleFirst_keyIn (s : State) : (cipherCycleFirst s).keyIn = s.keyIn := rfl
@[simp] theorem cipherCycleFirst_dataIn (s : State) : (cipherCycleFirst s).dataIn = s.dataIn := rfl
@[simp] theorem cipherCycleFirst_dataOut (s : State) : (cipherCycleFirst s).dataOut = s.dataOut := rfl
@[simp] theorem cipherCycleFirst_subkeyIo (s : State) : (cipherCycleFirst s).subkeyIo = s.subkeyIo := rfl
@[simp] theorem cipherCycleFirst_sk (s : State) : (cipherCycleFirst s).sk = s.sk := rfl
@[simp] theorem cipherCycleFirst_skv (s : State) : (cipherCycleFirst s).skv = s.skv := rfl
@[simp] theorem cipherCycleFirst_busy (s : State) : (cipherCycleFirst s).busy = s.busy := rfl
@[simp] theorem cipherCycleFirst_done (s : State) : (cipherCycleFirst s).done = s.done := rfl
@[simp] theorem cipherCycleFirst_ovr (s : State) : (cipherCycleFirst s).ovr = s.ovr := rfl
@[simp] theorem cipherCycleFirst_err (s : State) : (cipherCycleFirst s).err = s.err := rfl
@[simp] theorem cipherCycleFirst_pendOp (s : State) : (cipherCycleFirst s).pendOp = s.pendOp := rfl
@[simp] theorem cipherCycleFirst_pendIdx (s : State) : (cipherCycleFirst s).pendIdx = s.pendIdx := rfl
@[simp] theorem cipherCycleFirst_opnd (s : State) : (cipherCycleFirst s).opnd = s.opnd := rfl
@[simp] theorem cipherCycleFirst_workL (s : State) : (cipherCycleFirst s).workL = (splitBlock s.opnd).l := rfl
@[simp] theorem cipherCycleFirst_workR (s : State) : (cipherCycleFirst s).workR = (splitBlock s.opnd).r := rfl
@[simp] theorem cipherCycleFirst_workC (s : State) : (cipherCycleFirst s).workC = s.workC := rfl
@[simp] theorem cipherCycleFirst_workD (s : State) : (cipherCycleFirst s).workD = s.workD := rfl
@[simp] theorem cipherCycleFirst_rc (s : State) : (cipherCycleFirst s).rc = 1 := rfl
@[simp] theorem cipherCycleFirst_rst (s : State) : (cipherCycleFirst s).rst = s.rst := rfl
@[simp] theorem cipherCycleFirst_lat (s : State) : (cipherCycleFirst s).lat = s.lat := rfl
@[simp] theorem cipherCycleFirst_window (s : State) : (cipherCycleFirst s).window = s.window := rfl
@[simp] theorem cipherCycleFirst_rdata (s : State) : (cipherCycleFirst s).rdata = s.rdata := rfl
@[simp] theorem cipherCycleFirst_inputs (s : State) : (cipherCycleFirst s).inputs = s.inputs := rfl

/-! ### cipherCycleRound -/

@[simp] theorem cipherCycleRound_keyIn (ord : Fin 16 → Fin 16) (i : Fin 16) (s : State) : (cipherCycleRound ord i s).keyIn = s.keyIn := rfl
@[simp] theorem cipherCycleRound_dataIn (ord : Fin 16 → Fin 16) (i : Fin 16) (s : State) : (cipherCycleRound ord i s).dataIn = s.dataIn := rfl
@[simp] theorem cipherCycleRound_dataOut (ord : Fin 16 → Fin 16) (i : Fin 16) (s : State) : (cipherCycleRound ord i s).dataOut = s.dataOut := rfl
@[simp] theorem cipherCycleRound_subkeyIo (ord : Fin 16 → Fin 16) (i : Fin 16) (s : State) : (cipherCycleRound ord i s).subkeyIo = s.subkeyIo := rfl
@[simp] theorem cipherCycleRound_sk (ord : Fin 16 → Fin 16) (i : Fin 16) (s : State) : (cipherCycleRound ord i s).sk = s.sk := rfl
@[simp] theorem cipherCycleRound_skv (ord : Fin 16 → Fin 16) (i : Fin 16) (s : State) : (cipherCycleRound ord i s).skv = s.skv := rfl
@[simp] theorem cipherCycleRound_busy (ord : Fin 16 → Fin 16) (i : Fin 16) (s : State) : (cipherCycleRound ord i s).busy = s.busy := rfl
@[simp] theorem cipherCycleRound_done (ord : Fin 16 → Fin 16) (i : Fin 16) (s : State) : (cipherCycleRound ord i s).done = s.done := rfl
@[simp] theorem cipherCycleRound_ovr (ord : Fin 16 → Fin 16) (i : Fin 16) (s : State) : (cipherCycleRound ord i s).ovr = s.ovr := rfl
@[simp] theorem cipherCycleRound_err (ord : Fin 16 → Fin 16) (i : Fin 16) (s : State) : (cipherCycleRound ord i s).err = s.err := rfl
@[simp] theorem cipherCycleRound_pendOp (ord : Fin 16 → Fin 16) (i : Fin 16) (s : State) : (cipherCycleRound ord i s).pendOp = s.pendOp := rfl
@[simp] theorem cipherCycleRound_pendIdx (ord : Fin 16 → Fin 16) (i : Fin 16) (s : State) : (cipherCycleRound ord i s).pendIdx = s.pendIdx := rfl
@[simp] theorem cipherCycleRound_opnd (ord : Fin 16 → Fin 16) (i : Fin 16) (s : State) : (cipherCycleRound ord i s).opnd = s.opnd := rfl
@[simp] theorem cipherCycleRound_workL (ord : Fin 16 → Fin 16) (i : Fin 16) (s : State) : (cipherCycleRound ord i s).workL = (roundStep ⟨s.workL, s.workR⟩ (s.sk.get (ord i))).l := rfl
@[simp] theorem cipherCycleRound_workR (ord : Fin 16 → Fin 16) (i : Fin 16) (s : State) : (cipherCycleRound ord i s).workR = (roundStep ⟨s.workL, s.workR⟩ (s.sk.get (ord i))).r := rfl
@[simp] theorem cipherCycleRound_workC (ord : Fin 16 → Fin 16) (i : Fin 16) (s : State) : (cipherCycleRound ord i s).workC = s.workC := rfl
@[simp] theorem cipherCycleRound_workD (ord : Fin 16 → Fin 16) (i : Fin 16) (s : State) : (cipherCycleRound ord i s).workD = s.workD := rfl
@[simp] theorem cipherCycleRound_rc (ord : Fin 16 → Fin 16) (i : Fin 16) (s : State) : (cipherCycleRound ord i s).rc = BitVec.ofNat 5 (i.val + 2) := rfl
@[simp] theorem cipherCycleRound_rst (ord : Fin 16 → Fin 16) (i : Fin 16) (s : State) : (cipherCycleRound ord i s).rst = s.rst := rfl
@[simp] theorem cipherCycleRound_lat (ord : Fin 16 → Fin 16) (i : Fin 16) (s : State) : (cipherCycleRound ord i s).lat = s.lat := rfl
@[simp] theorem cipherCycleRound_window (ord : Fin 16 → Fin 16) (i : Fin 16) (s : State) : (cipherCycleRound ord i s).window = s.window := rfl
@[simp] theorem cipherCycleRound_rdata (ord : Fin 16 → Fin 16) (i : Fin 16) (s : State) : (cipherCycleRound ord i s).rdata = s.rdata := rfl
@[simp] theorem cipherCycleRound_inputs (ord : Fin 16 → Fin 16) (i : Fin 16) (s : State) : (cipherCycleRound ord i s).inputs = s.inputs := rfl

/-! ### cipherCycleLast -/

@[simp] theorem cipherCycleLast_keyIn (s : State) : (cipherCycleLast s).keyIn = s.keyIn := rfl
@[simp] theorem cipherCycleLast_dataIn (s : State) : (cipherCycleLast s).dataIn = s.dataIn := rfl
@[simp] theorem cipherCycleLast_dataOut (s : State) : (cipherCycleLast s).dataOut = joinBlock ⟨s.workL, s.workR⟩ := rfl
@[simp] theorem cipherCycleLast_subkeyIo (s : State) : (cipherCycleLast s).subkeyIo = s.subkeyIo := rfl
@[simp] theorem cipherCycleLast_sk (s : State) : (cipherCycleLast s).sk = s.sk := rfl
@[simp] theorem cipherCycleLast_skv (s : State) : (cipherCycleLast s).skv = s.skv := rfl
@[simp] theorem cipherCycleLast_busy (s : State) : (cipherCycleLast s).busy = false := rfl
@[simp] theorem cipherCycleLast_done (s : State) : (cipherCycleLast s).done = true := rfl
@[simp] theorem cipherCycleLast_ovr (s : State) : (cipherCycleLast s).ovr = s.ovr := rfl
@[simp] theorem cipherCycleLast_err (s : State) : (cipherCycleLast s).err = s.err := rfl
@[simp] theorem cipherCycleLast_pendOp (s : State) : (cipherCycleLast s).pendOp = s.pendOp := rfl
@[simp] theorem cipherCycleLast_pendIdx (s : State) : (cipherCycleLast s).pendIdx = s.pendIdx := rfl
@[simp] theorem cipherCycleLast_opnd (s : State) : (cipherCycleLast s).opnd = s.opnd := rfl
@[simp] theorem cipherCycleLast_workL (s : State) : (cipherCycleLast s).workL = s.workL := rfl
@[simp] theorem cipherCycleLast_workR (s : State) : (cipherCycleLast s).workR = s.workR := rfl
@[simp] theorem cipherCycleLast_workC (s : State) : (cipherCycleLast s).workC = s.workC := rfl
@[simp] theorem cipherCycleLast_workD (s : State) : (cipherCycleLast s).workD = s.workD := rfl
@[simp] theorem cipherCycleLast_rc (s : State) : (cipherCycleLast s).rc = s.rc := rfl
@[simp] theorem cipherCycleLast_rst (s : State) : (cipherCycleLast s).rst = s.rst := rfl
@[simp] theorem cipherCycleLast_lat (s : State) : (cipherCycleLast s).lat = s.lat := rfl
@[simp] theorem cipherCycleLast_window (s : State) : (cipherCycleLast s).window = s.window := rfl
@[simp] theorem cipherCycleLast_rdata (s : State) : (cipherCycleLast s).rdata = s.rdata := rfl
@[simp] theorem cipherCycleLast_inputs (s : State) : (cipherCycleLast s).inputs = s.inputs := rfl

/-! ### countCycle -/

@[simp] theorem countCycle_keyIn (s : State) : (countCycle s).keyIn = s.keyIn := rfl
@[simp] theorem countCycle_dataIn (s : State) : (countCycle s).dataIn = s.dataIn := rfl
@[simp] theorem countCycle_dataOut (s : State) : (countCycle s).dataOut = s.dataOut := rfl
@[simp] theorem countCycle_subkeyIo (s : State) : (countCycle s).subkeyIo = s.subkeyIo := rfl
@[simp] theorem countCycle_sk (s : State) : (countCycle s).sk = s.sk := rfl
@[simp] theorem countCycle_skv (s : State) : (countCycle s).skv = s.skv := rfl
@[simp] theorem countCycle_busy (s : State) : (countCycle s).busy = s.busy := rfl
@[simp] theorem countCycle_done (s : State) : (countCycle s).done = s.done := rfl
@[simp] theorem countCycle_ovr (s : State) : (countCycle s).ovr = s.ovr := rfl
@[simp] theorem countCycle_err (s : State) : (countCycle s).err = s.err := rfl
@[simp] theorem countCycle_pendOp (s : State) : (countCycle s).pendOp = s.pendOp := rfl
@[simp] theorem countCycle_pendIdx (s : State) : (countCycle s).pendIdx = s.pendIdx := rfl
@[simp] theorem countCycle_opnd (s : State) : (countCycle s).opnd = s.opnd := rfl
@[simp] theorem countCycle_workL (s : State) : (countCycle s).workL = s.workL := rfl
@[simp] theorem countCycle_workR (s : State) : (countCycle s).workR = s.workR := rfl
@[simp] theorem countCycle_workC (s : State) : (countCycle s).workC = s.workC := rfl
@[simp] theorem countCycle_workD (s : State) : (countCycle s).workD = s.workD := rfl
@[simp] theorem countCycle_rc (s : State) : (countCycle s).rc = s.rc := rfl
@[simp] theorem countCycle_rst (s : State) : (countCycle s).rst = s.rst := rfl
@[simp] theorem countCycle_lat (s : State) : (countCycle s).lat = s.lat := rfl
@[simp] theorem countCycle_window (s : State) : (countCycle s).window = s.window - 1 := rfl
@[simp] theorem countCycle_rdata (s : State) : (countCycle s).rdata = s.rdata := rfl
@[simp] theorem countCycle_inputs (s : State) : (countCycle s).inputs = s.inputs := rfl

/-! ### withoutWork -/

@[simp] theorem withoutWork_keyIn (s : State) : (withoutWork s).keyIn = s.keyIn := rfl
@[simp] theorem withoutWork_dataIn (s : State) : (withoutWork s).dataIn = s.dataIn := rfl
@[simp] theorem withoutWork_dataOut (s : State) : (withoutWork s).dataOut = s.dataOut := rfl
@[simp] theorem withoutWork_subkeyIo (s : State) : (withoutWork s).subkeyIo = s.subkeyIo := rfl
@[simp] theorem withoutWork_sk (s : State) : (withoutWork s).sk = s.sk := rfl
@[simp] theorem withoutWork_skv (s : State) : (withoutWork s).skv = s.skv := rfl
@[simp] theorem withoutWork_busy (s : State) : (withoutWork s).busy = s.busy := rfl
@[simp] theorem withoutWork_done (s : State) : (withoutWork s).done = s.done := rfl
@[simp] theorem withoutWork_ovr (s : State) : (withoutWork s).ovr = s.ovr := rfl
@[simp] theorem withoutWork_err (s : State) : (withoutWork s).err = s.err := rfl
@[simp] theorem withoutWork_pendOp (s : State) : (withoutWork s).pendOp = s.pendOp := rfl
@[simp] theorem withoutWork_pendIdx (s : State) : (withoutWork s).pendIdx = s.pendIdx := rfl
@[simp] theorem withoutWork_opnd (s : State) : (withoutWork s).opnd = s.opnd := rfl
@[simp] theorem withoutWork_workL (s : State) : (withoutWork s).workL = 0 := rfl
@[simp] theorem withoutWork_workR (s : State) : (withoutWork s).workR = 0 := rfl
@[simp] theorem withoutWork_workC (s : State) : (withoutWork s).workC = 0 := rfl
@[simp] theorem withoutWork_workD (s : State) : (withoutWork s).workD = 0 := rfl
@[simp] theorem withoutWork_rc (s : State) : (withoutWork s).rc = 0 := rfl
@[simp] theorem withoutWork_rst (s : State) : (withoutWork s).rst = s.rst := rfl
@[simp] theorem withoutWork_lat (s : State) : (withoutWork s).lat = s.lat := rfl
@[simp] theorem withoutWork_window (s : State) : (withoutWork s).window = 0 := rfl
@[simp] theorem withoutWork_rdata (s : State) : (withoutWork s).rdata = s.rdata := rfl
@[simp] theorem withoutWork_inputs (s : State) : (withoutWork s).inputs = s.inputs := rfl

/-! ### withInputs -/

@[simp] theorem withInputs_keyIn (rest : List Input) (s : State) : (withInputs rest s).keyIn = s.keyIn := rfl
@[simp] theorem withInputs_dataIn (rest : List Input) (s : State) : (withInputs rest s).dataIn = s.dataIn := rfl
@[simp] theorem withInputs_dataOut (rest : List Input) (s : State) : (withInputs rest s).dataOut = s.dataOut := rfl
@[simp] theorem withInputs_subkeyIo (rest : List Input) (s : State) : (withInputs rest s).subkeyIo = s.subkeyIo := rfl
@[simp] theorem withInputs_sk (rest : List Input) (s : State) : (withInputs rest s).sk = s.sk := rfl
@[simp] theorem withInputs_skv (rest : List Input) (s : State) : (withInputs rest s).skv = s.skv := rfl
@[simp] theorem withInputs_busy (rest : List Input) (s : State) : (withInputs rest s).busy = s.busy := rfl
@[simp] theorem withInputs_done (rest : List Input) (s : State) : (withInputs rest s).done = s.done := rfl
@[simp] theorem withInputs_ovr (rest : List Input) (s : State) : (withInputs rest s).ovr = s.ovr := rfl
@[simp] theorem withInputs_err (rest : List Input) (s : State) : (withInputs rest s).err = s.err := rfl
@[simp] theorem withInputs_pendOp (rest : List Input) (s : State) : (withInputs rest s).pendOp = s.pendOp := rfl
@[simp] theorem withInputs_pendIdx (rest : List Input) (s : State) : (withInputs rest s).pendIdx = s.pendIdx := rfl
@[simp] theorem withInputs_opnd (rest : List Input) (s : State) : (withInputs rest s).opnd = s.opnd := rfl
@[simp] theorem withInputs_workL (rest : List Input) (s : State) : (withInputs rest s).workL = s.workL := rfl
@[simp] theorem withInputs_workR (rest : List Input) (s : State) : (withInputs rest s).workR = s.workR := rfl
@[simp] theorem withInputs_workC (rest : List Input) (s : State) : (withInputs rest s).workC = s.workC := rfl
@[simp] theorem withInputs_workD (rest : List Input) (s : State) : (withInputs rest s).workD = s.workD := rfl
@[simp] theorem withInputs_rc (rest : List Input) (s : State) : (withInputs rest s).rc = s.rc := rfl
@[simp] theorem withInputs_rst (rest : List Input) (s : State) : (withInputs rest s).rst = s.rst := rfl
@[simp] theorem withInputs_lat (rest : List Input) (s : State) : (withInputs rest s).lat = s.lat := rfl
@[simp] theorem withInputs_window (rest : List Input) (s : State) : (withInputs rest s).window = s.window := rfl
@[simp] theorem withInputs_rdata (rest : List Input) (s : State) : (withInputs rest s).rdata = s.rdata := rfl
@[simp] theorem withInputs_inputs (rest : List Input) (s : State) : (withInputs rest s).inputs = rest := rfl

/-! ### withCommandWord -/

@[simp] theorem withCommandWord_keyIn (w : Word) (s : State) : (withCommandWord w s).keyIn = s.keyIn := rfl
@[simp] theorem withCommandWord_dataIn (w : Word) (s : State) : (withCommandWord w s).dataIn = s.dataIn := rfl
@[simp] theorem withCommandWord_dataOut (w : Word) (s : State) : (withCommandWord w s).dataOut = s.dataOut := rfl
@[simp] theorem withCommandWord_subkeyIo (w : Word) (s : State) : (withCommandWord w s).subkeyIo = s.subkeyIo := rfl
@[simp] theorem withCommandWord_sk (w : Word) (s : State) : (withCommandWord w s).sk = s.sk := rfl
@[simp] theorem withCommandWord_skv (w : Word) (s : State) : (withCommandWord w s).skv = s.skv := rfl
@[simp] theorem withCommandWord_busy (w : Word) (s : State) : (withCommandWord w s).busy = s.busy := rfl
@[simp] theorem withCommandWord_done (w : Word) (s : State) : (withCommandWord w s).done = s.done := rfl
@[simp] theorem withCommandWord_ovr (w : Word) (s : State) : (withCommandWord w s).ovr = s.ovr := rfl
@[simp] theorem withCommandWord_err (w : Word) (s : State) : (withCommandWord w s).err = s.err := rfl
@[simp] theorem withCommandWord_pendOp (w : Word) (s : State) : (withCommandWord w s).pendOp = s.pendOp := rfl
@[simp] theorem withCommandWord_pendIdx (w : Word) (s : State) : (withCommandWord w s).pendIdx = s.pendIdx := rfl
@[simp] theorem withCommandWord_opnd (w : Word) (s : State) : (withCommandWord w s).opnd = s.opnd := rfl
@[simp] theorem withCommandWord_workL (w : Word) (s : State) : (withCommandWord w s).workL = s.workL := rfl
@[simp] theorem withCommandWord_workR (w : Word) (s : State) : (withCommandWord w s).workR = s.workR := rfl
@[simp] theorem withCommandWord_workC (w : Word) (s : State) : (withCommandWord w s).workC = s.workC := rfl
@[simp] theorem withCommandWord_workD (w : Word) (s : State) : (withCommandWord w s).workD = s.workD := rfl
@[simp] theorem withCommandWord_rc (w : Word) (s : State) : (withCommandWord w s).rc = s.rc := rfl
@[simp] theorem withCommandWord_rst (w : Word) (s : State) : (withCommandWord w s).rst = false := rfl
@[simp] theorem withCommandWord_lat (w : Word) (s : State) : (withCommandWord w s).lat = s.lat := rfl
@[simp] theorem withCommandWord_window (w : Word) (s : State) : (withCommandWord w s).window = s.window := rfl
@[simp] theorem withCommandWord_rdata (w : Word) (s : State) : (withCommandWord w s).rdata = s.rdata := rfl
@[simp] theorem withCommandWord_inputs (w : Word) (s : State) : (withCommandWord w s).inputs = .host (.write 0x0 w) :: s.inputs := rfl

/-! ### dataWrite: only KEY_IN, DATA_IN and SUBKEY_IO can change -/

@[simp] theorem dataWrite_keyIn (a : Addr) (v : Word) (s : State) : (dataWrite a v s).keyIn = if a = 0x2 then v else s.keyIn := by
  unfold dataWrite; split_ifs <;> simp_all
@[simp] theorem dataWrite_dataIn (a : Addr) (v : Word) (s : State) : (dataWrite a v s).dataIn = if a = 0x3 then v else s.dataIn := by
  unfold dataWrite; split_ifs <;> simp_all
@[simp] theorem dataWrite_dataOut (a : Addr) (v : Word) (s : State) : (dataWrite a v s).dataOut = s.dataOut := by
  unfold dataWrite; split_ifs <;> rfl
@[simp] theorem dataWrite_subkeyIo (a : Addr) (v : Word) (s : State) : (dataWrite a v s).subkeyIo = if a = 0x5 then v.extractLsb' 0 48 else s.subkeyIo := by
  unfold dataWrite; split_ifs <;> simp_all
@[simp] theorem dataWrite_sk (a : Addr) (v : Word) (s : State) : (dataWrite a v s).sk = s.sk := by
  unfold dataWrite; split_ifs <;> rfl
@[simp] theorem dataWrite_skv (a : Addr) (v : Word) (s : State) : (dataWrite a v s).skv = s.skv := by
  unfold dataWrite; split_ifs <;> rfl
@[simp] theorem dataWrite_busy (a : Addr) (v : Word) (s : State) : (dataWrite a v s).busy = s.busy := by
  unfold dataWrite; split_ifs <;> rfl
@[simp] theorem dataWrite_done (a : Addr) (v : Word) (s : State) : (dataWrite a v s).done = s.done := by
  unfold dataWrite; split_ifs <;> rfl
@[simp] theorem dataWrite_ovr (a : Addr) (v : Word) (s : State) : (dataWrite a v s).ovr = s.ovr := by
  unfold dataWrite; split_ifs <;> rfl
@[simp] theorem dataWrite_err (a : Addr) (v : Word) (s : State) : (dataWrite a v s).err = s.err := by
  unfold dataWrite; split_ifs <;> rfl
@[simp] theorem dataWrite_pendOp (a : Addr) (v : Word) (s : State) : (dataWrite a v s).pendOp = s.pendOp := by
  unfold dataWrite; split_ifs <;> rfl
@[simp] theorem dataWrite_pendIdx (a : Addr) (v : Word) (s : State) : (dataWrite a v s).pendIdx = s.pendIdx := by
  unfold dataWrite; split_ifs <;> rfl
@[simp] theorem dataWrite_opnd (a : Addr) (v : Word) (s : State) : (dataWrite a v s).opnd = s.opnd := by
  unfold dataWrite; split_ifs <;> rfl
@[simp] theorem dataWrite_workL (a : Addr) (v : Word) (s : State) : (dataWrite a v s).workL = s.workL := by
  unfold dataWrite; split_ifs <;> rfl
@[simp] theorem dataWrite_workR (a : Addr) (v : Word) (s : State) : (dataWrite a v s).workR = s.workR := by
  unfold dataWrite; split_ifs <;> rfl
@[simp] theorem dataWrite_workC (a : Addr) (v : Word) (s : State) : (dataWrite a v s).workC = s.workC := by
  unfold dataWrite; split_ifs <;> rfl
@[simp] theorem dataWrite_workD (a : Addr) (v : Word) (s : State) : (dataWrite a v s).workD = s.workD := by
  unfold dataWrite; split_ifs <;> rfl
@[simp] theorem dataWrite_rc (a : Addr) (v : Word) (s : State) : (dataWrite a v s).rc = s.rc := by
  unfold dataWrite; split_ifs <;> rfl
@[simp] theorem dataWrite_rst (a : Addr) (v : Word) (s : State) : (dataWrite a v s).rst = s.rst := by
  unfold dataWrite; split_ifs <;> rfl
@[simp] theorem dataWrite_lat (a : Addr) (v : Word) (s : State) : (dataWrite a v s).lat = s.lat := by
  unfold dataWrite; split_ifs <;> rfl
@[simp] theorem dataWrite_window (a : Addr) (v : Word) (s : State) : (dataWrite a v s).window = s.window := by
  unfold dataWrite; split_ifs <;> rfl
@[simp] theorem dataWrite_rdata (a : Addr) (v : Word) (s : State) : (dataWrite a v s).rdata = s.rdata := by
  unfold dataWrite; split_ifs <;> rfl
@[simp] theorem dataWrite_inputs (a : Addr) (v : Word) (s : State) : (dataWrite a v s).inputs = s.inputs := by
  unfold dataWrite; split_ifs <;> rfl

end Sys2Proof.Laws
end

