-- ==== Sys2Proof/Laws/Ops.lean ====
section
/-! SUPPORT. What each shared operation can do, said once: the proofs cite these instead of unfolding the operation. -/

namespace Sys2Proof.Laws

open Sys2Proof Sys2Proof.Machine

/-- A command's effect at completion (45_interface_commands.md R197). -/
def effectOf (i : Instr) (s : State) : State :=
  match i with
  | .nop => effectNop s
  | .loadkey => effectLoadkey s
  | .encrypt => effectEncrypt s
  | .decrypt => effectDecrypt s
  | .wrsubkey idx => effectWrsubkey idx s
  | .rdsubkey idx => effectRdsubkey idx s

theorem runCommand_inFlight (i : Instr) (f : State → State) (s : State) (h : s.busy = true) :
    runCommand i f s = .next (finish (f s)) := by
  simp [runCommand, h]

theorem runCommand_idle (i : Instr) (f : State → State) (s : State) (h : s.busy = false) :
    runCommand i f s = .next (issueLegal i s) := by
  simp [runCommand, h]

/-- Every meaning is `runCommand` over its own effect. -/
theorem exec_eq_runCommand (i : Instr) (s : State) : exec i s = runCommand i (effectOf i) s := by
  cases i <;> rfl

theorem exec_inFlight (i : Instr) (s : State) (h : s.busy = true) : exec i s = .next (finish (effectOf i s)) := by
  rw [exec_eq_runCommand, runCommand_inFlight _ _ _ h]

theorem exec_idle (i : Instr) (s : State) (h : s.busy = false) : exec i s = .next (issueLegal i s) := by
  rw [exec_eq_runCommand, runCommand_idle _ _ _ h]

/-- The issue of a legal command accepts it or rejects it with NO_KEY. -/
theorem issueLegal_cases (i : Instr) (s : State) :
    (keyReady i s = true ∧ issueLegal i s = accept i s) ∨
    (keyReady i s = false ∧ issueLegal i s = reject errNoKey s) := by
  cases h : keyReady i s <;> simp [issueLegal, h]

/-- The four outcomes of a command write (60_exceptions.md R215). -/
theorem issue_cases (w : Word) (s t : State) (h : issue w s = .next t) :
    (s.busy = true ∧ t = dropWhileBusy s) ∨
    (s.busy = false ∧ (∃ why, decode w = .illegal why) ∧ t = reject errIllegalCmd s) ∨
    (s.busy = false ∧ ∃ i, decode w = .legal i ∧ keyReady i s = false ∧ t = reject errNoKey s) ∨
    (s.busy = false ∧ ∃ i, decode w = .legal i ∧ keyReady i s = true ∧ t = accept i s) := by
  cases hb : s.busy
  · cases hd : decode w with
    | illegal why =>
      simp only [issue, hb, hd, Bool.false_eq_true, if_false, Host.Outcome.next.injEq] at h
      exact .inr (.inl ⟨rfl, ⟨why, rfl⟩, h.symm⟩)
    | legal i =>
      simp only [issue, hb, hd, Bool.false_eq_true, if_false, exec_idle i s hb, Host.Outcome.next.injEq] at h
      rcases issueLegal_cases i s with ⟨hk, he⟩ | ⟨hk, he⟩
      · exact .inr (.inr (.inr ⟨rfl, i, rfl, hk, h.symm.trans he⟩))
      · exact .inr (.inr (.inl ⟨rfl, i, rfl, hk, h.symm.trans he⟩))
  · simp only [issue, hb, if_true, Host.Outcome.next.injEq] at h
    exact .inl ⟨rfl, h.symm⟩

theorem regWrite_cmd (w : Word) (s : State) : regWrite 0x0 w s = issue w s := rfl

theorem regWrite_status (v : Word) (s : State) : regWrite 0x1 v s = .next (statusWrite v s) := rfl

theorem regWrite_data (a : Addr) (v : Word) (s : State) (h0 : a ≠ 0x0) (h1 : a ≠ 0x1) :
    regWrite a v s = .next (dataWrite a v s) := by
  unfold regWrite
  rw [if_neg h0, if_neg h1]

/-- What a host access can do (20_memory.md R52, R53). -/
theorem hostAccess_cases (a : Access) (s t : State) (h : hostAccess a s = .next t) :
    (∃ addr, a = .read addr ∧ t = hostRead addr s) ∨
    (∃ w, a = .write 0x0 w ∧ issue w s = .next t) ∨
    (∃ v, a = .write 0x1 v ∧ t = statusWrite v s) ∨
    (∃ addr v, a = .write addr v ∧ addr ≠ 0x0 ∧ addr ≠ 0x1 ∧ t = dataWrite addr v s) := by
  cases a with
  | read addr => exact .inl ⟨addr, rfl, by simpa [hostAccess] using h.symm⟩
  | write addr v =>
    by_cases h0 : addr = 0x0
    · subst h0; exact .inr (.inl ⟨v, rfl, h⟩)
    · by_cases h1 : addr = 0x1
      · subst h1
        rw [hostAccess, regWrite_status, Host.Outcome.next.injEq] at h
        exact .inr (.inr (.inl ⟨v, rfl, h.symm⟩))
      · refine .inr (.inr (.inr ⟨addr, v, rfl, h0, h1, ?_⟩))
        rw [hostAccess, regWrite_data addr v s h0 h1, Host.Outcome.next.injEq] at h
        exact h.symm

/-- The engine's turn (45_interface_commands.md R196). -/
theorem complete_busy (s : State) (h : s.busy = true) : complete s = .next (finish (effectOf (pending s) s)) := by
  simp [complete, h, exec_inFlight _ _ h]

theorem complete_idle (s : State) (h : s.busy = false) : complete s = .next s := by
  simp [complete, h]

theorem engineTick_idle (s : State) (h : s.busy = false) : engineTick s = s := by
  simp [engineTick, h]

theorem engineTick_busy (s : State) (h : s.busy = true) : engineTick s = engineCycle s := by
  simp [engineTick, h]

@[simp] theorem slotOf_val (idx : SubkeyIdx) : (slotOf idx).val = idx.toNat := rfl

/-- The command in flight is read from PEND_OP and PEND_IDX alone. -/
theorem pending_of_latch (s t : State) (ho : t.pendOp = s.pendOp) (hi : t.pendIdx = s.pendIdx) :
    pending t = pending s := by
  simp [pending, ho, hi]

/-- The key requirement is read from SKV alone. -/
theorem keyReady_of_skv (i : Instr) (s t : State) (h : t.skv = s.skv) : keyReady i t = keyReady i s := by
  cases i <;> simp [keyReady, h]

/-- What is accepted is what is in flight. -/
@[simp] theorem pending_accept (i : Instr) (s : State) : pending (accept i s) = i := by
  cases i <;> rfl

/-- No effect touches the flags, the latch, the working registers or the model's own fields. -/
theorem effectOf_frame (i : Instr) (s : State) :
    (effectOf i s).busy = s.busy ∧ (effectOf i s).done = s.done ∧ (effectOf i s).ovr = s.ovr ∧
    (effectOf i s).err = s.err ∧ (effectOf i s).pendOp = s.pendOp ∧ (effectOf i s).pendIdx = s.pendIdx ∧
    (effectOf i s).opnd = s.opnd ∧ (effectOf i s).rst = s.rst ∧ (effectOf i s).rdata = s.rdata ∧
    (effectOf i s).inputs = s.inputs ∧ (effectOf i s).lat = s.lat ∧ (effectOf i s).window = s.window ∧
    (effectOf i s).keyIn = s.keyIn ∧ (effectOf i s).dataIn = s.dataIn := by
  cases i <;> exact ⟨rfl, rfl, rfl, rfl, rfl, rfl, rfl, rfl, rfl, rfl, rfl, rfl, rfl, rfl⟩

/-- Accepting a command leaves the latency parameters, so what a command takes is the same before and after. -/
@[simp] theorem latency_accept (op : Op) (i : Instr) (s : State) : latency op (accept i s) = latency op s := by
  cases op <;> rfl

/-- What a cycle of LOADKEY that leaves BUSY = 1 can be (41_key_schedule.md R125). -/
theorem keyCycle_cases (s : State) :
    (s.rc.toNat = 0 ∧ keyCycle s = keyCycleFirst s) ∨
    (∃ i : Fin 16, s.rc.toNat = i.val + 1 ∧ i.val < 15 ∧ keyCycle s = keyCycleRound i s) ∨
    (16 ≤ s.rc.toNat ∧ keyCycle s = s) := by
  unfold keyCycle
  split
  · next h => exact .inl ⟨h, rfl⟩
  · next k h =>
    by_cases hk : k < 15
    · exact .inr (.inl ⟨⟨k, by omega⟩, h, hk, by simp [hk]⟩)
    · exact .inr (.inr ⟨by omega, by simp [hk]⟩)

/-- What a cycle of ENCRYPT or DECRYPT that leaves BUSY = 1 can be (44_block_cipher.md R181). -/
theorem cipherCycle_cases (ord : Fin 16 → Fin 16) (s : State) :
    (s.rc.toNat = 0 ∧ cipherCycle ord s = cipherCycleFirst s) ∨
    (∃ i : Fin 16, s.rc.toNat = i.val + 1 ∧ cipherCycle ord s = cipherCycleRound ord i s) ∨
    (17 ≤ s.rc.toNat ∧ cipherCycle ord s = s) := by
  unfold cipherCycle
  split
  · next h => exact .inl ⟨h, rfl⟩
  · next k h =>
    by_cases hk : k < 16
    · exact .inr (.inl ⟨⟨k, hk⟩, h, by simp [hk]⟩)
    · exact .inr (.inr ⟨by omega, by simp [hk]⟩)

/-- The cycle that ends a command is the atomic completion, or the sequencer's own last cycle. -/
theorem endCycle_cases (s : State) :
    endCycle s = finish (effectOf (pending s) s) ∨
    (s.pendOp = .loadkey ∧ s.rc = 16 ∧ endCycle s = keyCycleLast (keyCycleRound 15 s)) ∨
    ((s.pendOp = .encrypt ∨ s.pendOp = .decrypt) ∧ s.rc = 17 ∧ endCycle s = cipherCycleLast s) := by
  unfold endCycle
  split <;> rename_i ho <;> simp only [pending, ho, effectOf]
  · simp
  · by_cases h : s.rc = 16
    · exact .inr (.inl ⟨trivial, h, if_pos h⟩)
    · exact .inl (if_neg h)
  · by_cases h : s.rc = 17
    · exact .inr (.inr ⟨.inl trivial, h, if_pos h⟩)
    · exact .inl (if_neg h)
  · by_cases h : s.rc = 17
    · exact .inr (.inr ⟨.inr trivial, h, if_pos h⟩)
    · exact .inl (if_neg h)
  · simp
  · simp

/-- What a cycle that leaves BUSY = 1 can be. -/
theorem workCycle_cases (s : State) :
    workCycle s = s ∨
    (s.pendOp = .loadkey ∧ s.rc.toNat = 0 ∧ workCycle s = keyCycleFirst s) ∨
    (∃ i : Fin 16, s.pendOp = .loadkey ∧ s.rc.toNat = i.val + 1 ∧ i.val < 15 ∧ workCycle s = keyCycleRound i s) ∨
    ((s.pendOp = .encrypt ∨ s.pendOp = .decrypt) ∧ s.rc.toNat = 0 ∧ workCycle s = cipherCycleFirst s) ∨
    (∃ i : Fin 16, s.pendOp = .encrypt ∧ s.rc.toNat = i.val + 1 ∧ workCycle s = cipherCycleRound orderFwd i s) ∨
    (∃ i : Fin 16, s.pendOp = .decrypt ∧ s.rc.toNat = i.val + 1 ∧ workCycle s = cipherCycleRound orderRev i s) := by
  unfold workCycle
  split <;> rename_i ho
  · exact .inl rfl
  · rcases keyCycle_cases s with ⟨h, e⟩ | ⟨i, h, hi, e⟩ | ⟨_, e⟩
    · exact .inr (.inl ⟨ho, h, e⟩)
    · exact .inr (.inr (.inl ⟨i, ho, h, hi, e⟩))
    · exact .inl e
  · rcases cipherCycle_cases orderFwd s with ⟨h, e⟩ | ⟨i, h, e⟩ | ⟨_, e⟩
    · exact .inr (.inr (.inr (.inl ⟨.inl ho, h, e⟩)))
    · exact .inr (.inr (.inr (.inr (.inl ⟨i, ho, h, e⟩))))
    · exact .inl e
  · rcases cipherCycle_cases orderRev s with ⟨h, e⟩ | ⟨i, h, e⟩ | ⟨_, e⟩
    · exact .inr (.inr (.inr (.inl ⟨.inr ho, h, e⟩)))
    · exact .inr (.inr (.inr (.inr (.inr ⟨i, ho, h, e⟩))))
    · exact .inl e
  · exact .inl rfl
  · exact .inl rfl

/-- The last cycle of the BUSY window. -/
theorem engineTick_last (s : State) (hb : s.busy = true) (h : s.window ≤ 1) : engineTick s = endCycle s := by
  simp [engineTick_busy s hb, engineCycle, h]

/-- Every other cycle of the BUSY window. -/
theorem engineTick_work (s : State) (hb : s.busy = true) (h : 1 < s.window) :
    engineTick s = workCycle (countCycle s) := by
  simp [engineTick_busy s hb, engineCycle, Nat.not_le.mpr h]

/-- A cycle that ends the command: BUSY falls, DONE rises. -/
theorem endCycle_frame (s : State) :
    (endCycle s).err = s.err ∧ (endCycle s).ovr = s.ovr ∧ (endCycle s).pendOp = s.pendOp ∧
    (endCycle s).pendIdx = s.pendIdx ∧ (endCycle s).opnd = s.opnd ∧ (endCycle s).keyIn = s.keyIn ∧
    (endCycle s).dataIn = s.dataIn ∧ (endCycle s).lat = s.lat ∧ (endCycle s).rst = s.rst ∧
    (endCycle s).rdata = s.rdata ∧ (endCycle s).inputs = s.inputs ∧
    (endCycle s).busy = false ∧ (endCycle s).done = true := by
  obtain e | ⟨_, _, e⟩ | ⟨_, _, e⟩ := endCycle_cases s <;> rw [e]
  · have h := effectOf_frame (pending s) s
    simp [h]
  · simp
  · simp

/-- A cycle that does not: the flags, SKV, DATA_OUT, SUBKEY_IO and the window stay. -/
theorem workCycle_frame (s : State) :
    (workCycle s).err = s.err ∧ (workCycle s).ovr = s.ovr ∧ (workCycle s).pendOp = s.pendOp ∧
    (workCycle s).pendIdx = s.pendIdx ∧ (workCycle s).opnd = s.opnd ∧ (workCycle s).keyIn = s.keyIn ∧
    (workCycle s).dataIn = s.dataIn ∧ (workCycle s).lat = s.lat ∧ (workCycle s).rst = s.rst ∧
    (workCycle s).rdata = s.rdata ∧ (workCycle s).inputs = s.inputs ∧
    (workCycle s).busy = s.busy ∧ (workCycle s).done = s.done ∧ (workCycle s).skv = s.skv ∧
    (workCycle s).dataOut = s.dataOut ∧ (workCycle s).subkeyIo = s.subkeyIo ∧ (workCycle s).window = s.window := by
  obtain e | ⟨_, _, e⟩ | ⟨i, _, _, _, e⟩ | ⟨_, _, e⟩ | ⟨i, _, _, e⟩ | ⟨i, _, _, e⟩ := workCycle_cases s <;> rw [e] <;> simp

/-- What an engine cycle leaves: it either goes on, with the flags, SKV and DATA_OUT as they were, or ends the command. -/
theorem engineTick_frame (s : State) :
    (engineTick s).err = s.err ∧ (engineTick s).ovr = s.ovr ∧ (engineTick s).pendOp = s.pendOp ∧
    (engineTick s).pendIdx = s.pendIdx ∧ (engineTick s).opnd = s.opnd ∧ (engineTick s).keyIn = s.keyIn ∧
    (engineTick s).dataIn = s.dataIn ∧ (engineTick s).lat = s.lat ∧ (engineTick s).rst = s.rst ∧
    (engineTick s).rdata = s.rdata ∧ (engineTick s).inputs = s.inputs ∧
    (((engineTick s).busy = s.busy ∧ (engineTick s).done = s.done ∧ (engineTick s).skv = s.skv ∧
        (engineTick s).dataOut = s.dataOut ∧ (engineTick s).subkeyIo = s.subkeyIo) ∨
      (s.busy = true ∧ (engineTick s).busy = false ∧ (engineTick s).done = true)) := by
  cases hb : s.busy with
  | false => simp [engineTick_idle s hb, hb]
  | true =>
    by_cases hw : s.window ≤ 1
    · rw [engineTick_last s hb hw]
      have h := endCycle_frame s
      simp [h]
    · rw [engineTick_work s hb (by omega)]
      have h := workCycle_frame (countCycle s)
      simp [h, hb]

end Sys2Proof.Laws
end

