-- ==== Sys2Proof/Laws/PerInstr.lean ====
section
/-! SUPPORT. Statements about every command, one lemma per constructor. -/

namespace Sys2Proof.Laws

/-- A command's word is legal by the mask-and-match test and well formed by its fields (30_encoding.md R75). -/
def EncodedWordIsLegal.Statement (i : Instr) : Prop := legal (encode i) = true ∧ (fieldsOf (encode i)).wf = true

theorem EncodedWordIsLegal.nop : EncodedWordIsLegal.Statement .nop := by
  unfold EncodedWordIsLegal.Statement
  decide

theorem EncodedWordIsLegal.loadkey : EncodedWordIsLegal.Statement .loadkey := by
  unfold EncodedWordIsLegal.Statement
  decide

theorem EncodedWordIsLegal.encrypt : EncodedWordIsLegal.Statement .encrypt := by
  unfold EncodedWordIsLegal.Statement
  decide

theorem EncodedWordIsLegal.decrypt : EncodedWordIsLegal.Statement .decrypt := by
  unfold EncodedWordIsLegal.Statement
  decide

theorem EncodedWordIsLegal.wrsubkey (idx : SubkeyIdx) : EncodedWordIsLegal.Statement (.wrsubkey idx) := by
  unfold EncodedWordIsLegal.Statement
  revert idx
  decide

theorem EncodedWordIsLegal.rdsubkey (idx : SubkeyIdx) : EncodedWordIsLegal.Statement (.rdsubkey idx) := by
  unfold EncodedWordIsLegal.Statement
  revert idx
  decide

end Sys2Proof.Laws
end

