-- ==== Sys2Proof/Laws/Step.lean ====
section
/-! SUPPORT. What one step can do, said once. -/

namespace Sys2Proof.Laws

open Sys2Proof Sys2Proof.Machine

@[simp] theorem stepsTo_zero (s t : State) : stepsTo 0 s t ↔ s = t := Iff.rfl

theorem stepsTo_succ (n : Nat) (s t : State) : stepsTo (n + 1) s t ↔ ∃ u, step s = .next u ∧ stepsTo n u t := Iff.rfl

/-- Runs follow one another. -/
theorem stepsTo_trans (m n : Nat) (s t u : State) (h : stepsTo m s t) (h' : stepsTo n t u) : stepsTo (m + n) s u := by
  induction m generalizing s with
  | zero => rw [Nat.zero_add]; exact (stepsTo_zero s t).mp h ▸ h'
  | succ m ih =>
    obtain ⟨v, hv, hm⟩ := (stepsTo_succ m s t).mp h
    rw [Nat.add_right_comm]
    exact ⟨v, hv, ih v hm⟩

theorem step_noInput (s : State) (h : s.inputs = []) : step s = takeNoInput s := by
  simp [step, h]

theorem step_input (s : State) (e : Input) (rest : List Input) (h : s.inputs = e :: rest) :
    step s = takeInput e (withInputs rest s) := by
  simp [step, h]

theorem takeInput_held (e : Input) (s : State) (h : s.rst = true) : takeInput e s = .next (heldInReset e s) := by
  simp [takeInput, h]

theorem takeInput_live (e : Input) (s : State) (h : s.rst = false) : takeInput e s = takeLive e s := by
  simp [takeInput, h]

/-- A host access at the head of the list, the pin low. -/
theorem step_host (s : State) (a : Access) (rest : List Input) (hr : s.rst = false)
    (h : s.inputs = .host a :: rest) : step s = hostAccess a (withInputs rest s) := by
  rw [step_input s _ _ h, takeInput_live _ _ (by simpa using hr), takeLive]

/-- The engine's turn at the head of the list, the pin low. -/
theorem step_complete (s : State) (rest : List Input) (hr : s.rst = false)
    (h : s.inputs = .complete :: rest) : step s = complete (withInputs rest s) := by
  rw [step_input s _ _ h, takeInput_live _ _ (by simpa using hr), takeLive]

/-- A clock cycle at the head of the list, the pin low. -/
theorem step_clock (s : State) (a : Option Access) (rest : List Input) (hr : s.rst = false)
    (h : s.inputs = .clock a :: rest) : step s = clockCycle a (withInputs rest s) := by
  rw [step_input s _ _ h, takeInput_live _ _ (by simpa using hr), takeLive]

/-- A clock cycle is the access, then an engine cycle if a command was in flight before it (20_memory.md R62). -/
theorem clockCycle_access_busy (a : Access) (s t : State) (h : s.busy = true) (ha : hostAccess a s = .next t) :
    clockCycle (some a) s = .next (engineTick t) := by
  simp [clockCycle, h, ha, andThen]

theorem clockCycle_access_idle (a : Access) (s : State) (h : s.busy = false) :
    clockCycle (some a) s = hostAccess a s := by
  simp [clockCycle, h]

theorem clockCycle_none_busy (s : State) (h : s.busy = true) : clockCycle none s = .next (engineTick s) := by
  simp [clockCycle, h, andThen]

theorem clockCycle_none_idle (s : State) (h : s.busy = false) : clockCycle none s = .next s := by
  simp [clockCycle, h]

/-- What a clock cycle can be. -/
theorem clockCycle_cases (a : Option Access) (s t : State) (h : clockCycle a s = .next t) :
    (s.busy = false ∧ a = none ∧ t = s) ∨
    (s.busy = false ∧ ∃ x, a = some x ∧ hostAccess x s = .next t) ∨
    (s.busy = true ∧ a = none ∧ t = engineTick s) ∨
    (s.busy = true ∧ ∃ x u, a = some x ∧ hostAccess x s = .next u ∧ t = engineTick u) := by
  cases hb : s.busy <;> cases a with
  | none => simp [clockCycle, hb, andThen] at h; simp [h]
  | some x =>
    cases hx : hostAccess x s with
    | next u => simp [clockCycle, hb, hx, andThen] at h; simp [h, hx]
    | fault f => simp [clockCycle, hb, hx, andThen] at h
    | refused r => simp [clockCycle, hb, hx, andThen] at h

/-- Every step that answers a next state is one of these (45_interface_commands.md R201, 70_reset_and_hazards.md R232). -/
theorem step_cases (s t : State) (h : step s = .next t) :
    (s.inputs = [] ∧ s.rst = true ∧ t = resetRegs s) ∨
    (s.inputs = [] ∧ s.rst = false ∧ complete s = .next t) ∨
    (∃ e rest, s.inputs = e :: rest ∧ s.rst = true ∧ t = heldInReset e (withInputs rest s)) ∨
    (∃ e rest, s.inputs = e :: rest ∧ s.rst = false ∧ takeLive e (withInputs rest s) = .next t) := by
  cases hr : s.rst <;> cases hi : s.inputs with
  | nil =>
    rw [step_noInput s hi] at h
    simp [takeNoInput, hr] at h
    first
      | exact .inl ⟨rfl, rfl, h.symm⟩
      | exact .inr (.inl ⟨rfl, rfl, h⟩)
  | cons e rest =>
    rw [step_input s e rest hi] at h
    first
      | rw [takeInput_live e _ (by simpa using hr)] at h; exact .inr (.inr (.inr ⟨e, rest, rfl, rfl, h⟩))
      | rw [takeInput_held e _ (by simpa using hr)] at h
        exact .inr (.inr (.inl ⟨e, rest, rfl, rfl, by simpa using h.symm⟩))

end Sys2Proof.Laws
end

