-- ==== Sys2Proof/Tests/Slice0.lean ====
section
/-! SUPPORT. The model's own tests, each expected value from spec/95_test_vectors.md or from the rule named, and one witness for each statement that has hypotheses. -/

namespace Sys2Proof.Tests

open Sys2Proof Sys2Proof.Machine

/-! ### Well-formedness: one ill-formed word for each check (30_encoding.md R71 to R73) -/

theorem test_wf_refuses_reserved_bits : (CommandFields.mk 1 0 4).wf = false := by decide
theorem test_wf_refuses_reserved_op : (CommandFields.mk 0 0 6).wf = false := by decide
theorem test_wf_refuses_unused_index : (CommandFields.mk 0 1 2).wf = false := by decide
theorem test_wf_accepts_index_15_of_wrsubkey : (CommandFields.mk 0 15 4).wf = true := by decide

/-! ### Decoding: words written from R70 and R74, IDX then OP in the low byte -/

theorem test_decode_nop : decode 0b00000000 = .legal .nop := by decide
theorem test_decode_loadkey : decode 0b00000001 = .legal .loadkey := by decide
theorem test_decode_encrypt : decode 0b00000010 = .legal .encrypt := by decide
theorem test_decode_decrypt : decode 0b00000011 = .legal .decrypt := by decide
theorem test_decode_wrsubkey : decode 0b10010100 = .legal (.wrsubkey 9) := by decide
theorem test_decode_rdsubkey : decode 0b01100101 = .legal (.rdsubkey 6) := by decide
theorem test_decode_illegal_words :
    decode 0x0F = .illegal .reservedOp ∧ decode 0x10 = .illegal .unusedIdx ∧ decode 0x100 = .illegal .reservedBits ∧
    decode 0x104 = .illegal .reservedBits ∧ decode 0xFFFFFFFFFFFFFFFF = .illegal .reservedBits := by decide
theorem test_table_word_of_rdsubkey : decodeTableWord 64 0x35 = some (.rdsubkey 3) := by decide
theorem test_table_word_illegal : decodeTableWord 64 0x12 = none := by decide

/-! ### The datapath: V1, V2, V13 to V17 -/

theorem test_permute_reverses_four_bits : permute 4 (0b1011 : BitVec 4) [4, 3, 2, 1] = 0b1101 := by decide
theorem test_permute_repeats_an_entry : permute 3 (0b1011 : BitVec 4) [1, 1, 4] = 0b111 := by decide
theorem test_ip_of_the_first_position : permute 64 (0x8000000000000000 : Word) tableIP = 0x0000000001000000 := by decide +kernel
theorem test_pc1_of_v2 : permute 56 (0x133457799BBCDFF1 : Word) tablePC1 = 0xF0CCAAF556678F := by decide +kernel
theorem test_pc2_of_the_last_position : permute 48 (1 : BitVec 56) tablePC2 = 0x000000000100 := by decide +kernel
theorem test_expansion_of_v2 : permute 48 (0xF0AAF0AA : Half) tableE = 0x7A15557A1555 := by decide +kernel
theorem test_pbox_of_v13 : permute 32 (0xEFA72C4D : Half) tableP = 0xD8D8DBBC := by decide +kernel
theorem test_rotation_wraps_at_bit_28 : rotl28 0x8000000 1 = 0x0000001 ∧ rotl28 0xF0CCAAF 2 = 0xC332ABF := by decide
theorem test_sbox_of_zero_and_ones : sbox 0 = 0xEFA72C4D ∧ sbox 0xFFFFFFFFFFFF = 0xD9CE3DCB := by decide +kernel
theorem test_sbox_of_v2 : sbox 0x6117BA866527 = 0x5C82B597 ∧ sbox 0x0000000000FC = 0xEFA72C05 := by decide +kernel
theorem test_feistel_of_v2 : feistel 0xF0AAF0AA 0x1B02EFFC7072 = 0x234AA9BB := by decide +kernel
theorem test_subkeys_of_v2 :
    (keySchedule 0x133457799BBCDFF1).get 0 = 0x1B02EFFC7072 ∧
    (keySchedule 0x133457799BBCDFF1).get 15 = 0xCB3D8B0E17F5 := by decide +kernel
theorem test_known_answer_encrypts :
    cipher 0x0123456789ABCDEF (keySchedule 0x133457799BBCDFF1) orderFwd = 0x85E813540F0AB405 := by decide +kernel
theorem test_known_answer_decrypts :
    cipher 0x85E813540F0AB405 (keySchedule 0x133457799BBCDFF1) orderRev = 0x0123456789ABCDEF := by decide +kernel

/-! ### States for the tests -/

/-- `MachineInv`, evaluated clause by clause. -/
def invCheck (s : State) : Bool :=
  decide (StatusInv s) && decide (PinInv s) &&
    (decide (s.busy = true → s.pendOp = .loadkey → KeyProgress s) &&
      decide (s.busy = true → s.pendOp = .encrypt → CipherProgress orderFwd s) &&
      decide (s.busy = true → s.pendOp = .decrypt → CipherProgress orderRev s))

theorem machineInv_of_invCheck {s : State} (h : invCheck s = true) : MachineInv s := by
  simp only [invCheck, Bool.and_eq_true] at h
  exact ⟨of_decide_eq_true h.1.1, of_decide_eq_true h.1.2, of_decide_eq_true h.2.1.1, of_decide_eq_true h.2.1.2,
    of_decide_eq_true h.2.2⟩

/-- The reset state with inputs waiting. -/
def atReset (l : List Input) : State := { State.reset with inputs := l }

/-- Subkeys 1 to 16, all valid, and data in the registers. -/
def loaded (l : List Input) : State :=
  { atReset l with
    keyIn := 0x133457799BBCDFF1
    dataIn := 0x0123456789ABCDEF
    subkeyIo := 0x79AED9DBC9E5
    sk := #v[1, 2, 3, 4, 5, 6, 7, 8, 9, 10, 11, 12, 13, 14, 15, 16]
    skv := 0xFFFF }

/-- A command accepted from the loaded state. -/
def inFlight (i : Instr) (l : List Input) : State := accept i (loaded l)

/-- STATUS = 0x1E: DONE, KSV, OVR and ERR = 1 (V22). -/
def status1E (l : List Input) : State := { loaded l with done := true, ovr := true, err := 1 }

/-- The state a step leads to. -/
def after (s : State) : State :=
  match step s with
  | .next t => t
  | .fault _ => s
  | .refused _ => s

/-- A host write of a word to CMD. -/
def cmd (w : Word) : Input := .host (.write 0x0 w)

/-! ### Steps: V22 and the rules named -/

theorem test_encrypt_after_reset_has_no_key : statusWord (after (atReset [cmd 0x2])) = 0x22 := by decide
theorem test_reserved_op_is_illegal : statusWord (after (atReset [cmd 0x6])) = 0x12 := by decide
theorem test_rdsubkey_of_a_valid_entry_is_accepted :
    statusWord (after { atReset [cmd 0x35] with skv := 0x0008 }) = 0x01 := by decide
theorem test_rdsubkey_of_an_invalid_entry_has_no_key :
    statusWord (after { atReset [cmd 0x25] with skv := 0x0008 }) = 0x22 := by decide
theorem test_wrsubkey_needs_no_key :
    statusWord (after (atReset [cmd 0x14])) = 0x01 ∧ (after (atReset [cmd 0x14])).pendIdx = 1 := by decide
theorem test_command_while_busy_is_dropped :
    statusWord (after (inFlight .nop [cmd 0x6])) = 0x0D ∧ (after (inFlight .encrypt [cmd 0x2])).opnd = 0x0123456789ABCDEF := by
  decide
theorem test_status_write_clears_done : statusWord (after (status1E [.host (.write 0x1 0x02)])) = 0x1C := by decide
theorem test_status_write_of_a_clear_err_bit : statusWord (after (status1E [.host (.write 0x1 0x20)])) = 0x1E := by decide
theorem test_nop_clears_err_and_completes :
    statusWord (after (status1E [cmd 0x0, .complete])) = 0x0D ∧
    statusWord (after (after (status1E [cmd 0x0, .complete]))) = 0x0E := by decide
theorem test_loadkey_completes_with_v2 :
    (after (inFlight .loadkey [.complete])).sk.get 1 = 0x79AED9DBC9E5 := by decide +kernel
theorem test_loadkey_captures_key_in : (after (loaded [cmd 0x1])).opnd = 0x133457799BBCDFF1 := by decide
theorem test_encrypt_completes_with_v1 :
    (after { inFlight .encrypt [.complete] with sk := keySchedule 0x133457799BBCDFF1 }).dataOut = 0x85E813540F0AB405 := by
  decide +kernel
theorem test_decrypt_completes_with_v1 :
    (after { inFlight .decrypt [.complete] with
      sk := keySchedule 0x133457799BBCDFF1, opnd := 0x85E813540F0AB405 }).dataOut = 0x0123456789ABCDEF := by
  decide +kernel
theorem test_wrsubkey_writes_its_entry :
    (after (inFlight (.wrsubkey 15) [.complete])).sk.get 15 = 0x79AED9DBC9E5 ∧
    (after (inFlight (.wrsubkey 15) [.complete])).sk.get 14 = 15 := by decide
theorem test_rdsubkey_reads_its_entry : (after (inFlight (.rdsubkey 3) [.complete])).subkeyIo = 4 := by decide
theorem test_subkey_io_has_48_bits :
    (after (after (atReset [.host (.write 0x5 0xFFFFFFFFFFFFFFFF), .host (.read 0x5)]))).rdata = 0x0000FFFFFFFFFFFF := by
  decide
theorem test_data_out_ignores_writes : (after (loaded [.host (.write 0x4 0x1234)])).dataOut = 0 := by decide
theorem test_reserved_address_reads_zero : (after { loaded [.host (.read 0x9)] with rdata := 5 }).rdata = 0 := by decide
theorem test_reset_while_busy :
    statusWord (after (inFlight .loadkey [.reset])) = 0 ∧ (after (inFlight .loadkey [.reset])).skv = 0 := by decide
theorem test_first_key_cycle_of_v2 :
    (engineTick (engineTick (inFlight .loadkey []))).workC = 0xE19955F ∧
    (engineTick (engineTick (inFlight .loadkey []))).workD = 0xAACCF1E := by decide +kernel
theorem test_first_cipher_round_of_v2 :
    (engineTick (engineTick { inFlight .encrypt [] with sk := keySchedule 0x133457799BBCDFF1 })).workL = 0xF0AAF0AA ∧
    (engineTick (engineTick { inFlight .encrypt [] with sk := keySchedule 0x133457799BBCDFF1 })).workR = 0xEF4A6544 := by
  decide +kernel
theorem test_clock_cycle_of_acceptance_runs_no_engine_cycle :
    (after (loaded [.clock (some (.write 0x0 0x0))])).busy = true ∧
    (after (after (loaded [.clock (some (.write 0x0 0x0)), .clock none]))).busy = false := by decide
theorem test_latency_parameter_sets_the_window :
    (after (inFlight .nop [.clock none])).busy = false ∧
    (after (accept .nop { loaded [.clock none] with lat := ⟨2, 17, 18, 1⟩ })).busy = true := by decide
theorem test_first_byte_is_most_significant : packBlock #v[0x01, 0x23, 0x45, 0x67, 0x89, 0xAB, 0xCD, 0xEF] = 0x0123456789ABCDEF := by
  decide
theorem test_host_program_writes_data_in :
    (hostTurn { prog := asmEnc (.imm 7) 0 1 2, pos := 0, vars := [], device := State.reset }).map (fun h => (h.device.dataIn, h.pos)) =
      some (7, 1) := by decide
theorem test_placed_word_after_reset : statusWord (after (State.reset.withFetchWord 64 0x1)) = 0x01 := by decide

/-! ### Witnesses: a concrete state and operands that meet the hypotheses of each statement -/

theorem witness_CommandWriteRunsTheDecodedCommand :
    (loaded [cmd 0x1]).rst = false ∧ (loaded [cmd 0x1]).busy = false ∧ decode 0x1 = .legal .loadkey ∧
    (loaded [cmd 0x1]).inputs = .host (.write 0x0 0x1) :: [] ∧
    (loaded [.clock (some (.write 0x0 0x1))]).inputs = .clock (some (.write 0x0 0x1)) :: [] := by decide

theorem witness_EngineTurnRunsThePendingCommand :
    (inFlight .encrypt [.complete]).rst = false ∧ (inFlight .encrypt [.complete]).inputs = .complete :: [] ∧
    (inFlight .encrypt [.complete]).busy = true ∧ (loaded [.complete]).busy = false ∧
    (loaded [.complete]).inputs = .complete :: [] ∧ (inFlight .encrypt []).inputs = [] := by decide

theorem witness_PlacedWordIsTheNextCommand : (loaded []).busy = false ∧ (inFlight .nop []).busy = true := by decide

theorem witness_CommandWriteHasFourOutcomes :
    ((inFlight .nop [cmd 0x6]).busy = true) ∧
    ((loaded [cmd 0x6]).busy = false ∧ legal 0x6 = false) ∧
    ((atReset [cmd 0x2]).busy = false ∧ legal 0x2 = true ∧ (0x2 : Word).extractLsb' 0 4 = 0x2 ∧ (atReset [cmd 0x2]).skv ≠ 0xFFFF) ∧
    (legal 0xF5 = true ∧ (0xF5 : Word).extractLsb' 0 4 = 0x5 ∧
      (atReset [cmd 0xF5]).skv.getLsbD ((0xF5 : Word).extractLsb' 4 4).toNat = false) ∧
    (legal 0xF4 = true ∧ (0xF4 : Word).extractLsb' 0 4 ≠ 0x2 ∧ (0xF4 : Word).extractLsb' 0 4 ≠ 0x3 ∧
      (0xF4 : Word).extractLsb' 0 4 ≠ 0x5) := by decide

theorem witness_AcceptedCommandsCaptureTheirOperand :
    (loaded []).busy = false ∧ (loaded []).skv = 0xFFFF ∧ (loaded []).skv.getLsbD (15 : SubkeyIdx).toNat = true := by decide

theorem witness_MissingSubkeysAreRejectedWithNoKey :
    (atReset []).busy = false ∧ (atReset []).skv ≠ 0xFFFF ∧ (atReset []).skv.getLsbD (15 : SubkeyIdx).toNat = false := by decide

theorem witness_NopCompletes : (inFlight .nop []).busy = true ∧ pending (inFlight .nop []) = .nop := by decide

theorem witness_LoadkeyCompletes : (inFlight .loadkey []).busy = true ∧ pending (inFlight .loadkey []) = .loadkey := by decide

theorem witness_CipherCommandsComplete :
    (inFlight .encrypt []).busy = true ∧ pending (inFlight .encrypt []) = .encrypt ∧
    (inFlight .decrypt []).busy = true ∧ pending (inFlight .decrypt []) = .decrypt := by decide

theorem witness_WrsubkeyCompletes :
    (inFlight (.wrsubkey 15) []).busy = true ∧ pending (inFlight (.wrsubkey 15) []) = .wrsubkey 15 := by decide

theorem witness_RdsubkeyCompletes :
    (inFlight (.rdsubkey 15) []).busy = true ∧ pending (inFlight (.rdsubkey 15) []) = .rdsubkey 15 := by decide

theorem witness_CommandsRunFromIssueToCompletion :
    (loaded [cmd 0xF5, .complete]).rst = false ∧ (loaded [cmd 0xF5, .complete]).busy = false ∧
    keyReady (.rdsubkey 15) (loaded [cmd 0xF5, .complete]) = true ∧
    (loaded [cmd 0xF5, .complete]).inputs = .host (.write 0x0 (encode (.rdsubkey 15))) :: .complete :: [] := by decide

theorem witness_OperandsAreCapturedAtIssue :
    (inFlight .loadkey []).rst = false ∧ (inFlight .loadkey []).busy = true ∧ (inFlight .loadkey []).pendOp = .loadkey := by decide

/-- Every address falls under exactly one clause of the map. -/
theorem witness_RegisterReadsFollowTheMap :
    (loaded [.host (.read 0xF)]).rst = false ∧ (loaded [.host (.read 0xF)]).inputs = .host (.read 0xF) :: [] ∧
    ∀ a : Addr, (a = 0x0 ∨ a = 0x1 ∨ a = 0x2 ∨ a = 0x3 ∨ a = 0x4 ∨ a = 0x5 ∨ a = 0x6) ↔ ¬(7 ≤ a.toNat) := by decide

theorem witness_RegisterWritesFollowTheMap :
    (inFlight .nop [.host (.write 0x5 1)]).rst = false ∧
    (inFlight .nop [.host (.write 0x5 1)]).inputs = .host (.write 0x5 1) :: [] := by decide

theorem witness_ReservedAddressesReadZeroAndIgnoreWrites :
    (loaded [.host (.read 0x7)]).rst = false ∧ 7 ≤ (0x7 : Addr).toNat ∧ 7 ≤ (0xF : Addr).toNat ∧
    (loaded [.host (.read 0x7)]).inputs = .host (.read 0x7) :: [] ∧
    (loaded [.host (.write 0xF 1)]).inputs = .host (.write 0xF 1) :: [] := by decide

theorem witness_StatusWriteIsWriteOneToClear :
    (status1E [.host (.write 0x1 0xFA)]).rst = false ∧
    (status1E [.host (.write 0x1 0xFA)]).inputs = .host (.write 0x1 0xFA) :: [] ∧
    (0xFA : Word).getLsbD 1 = true ∧ (0xFA : Word).getLsbD 3 = true ∧ (0xFA : Word).getLsbD 7 = true := by decide

theorem witness_SubkeysAndValidBitsAreWrittenByLoadsOnly :
    step (inFlight (.wrsubkey 15) [.complete]) = .next (after (inFlight (.wrsubkey 15) [.complete])) ∧
    ¬ResetNow (inFlight (.wrsubkey 15) [.complete]) ∧
    (inFlight (.wrsubkey 15) [.complete]).skv.getLsbD 0 = true ∧
    (after (inFlight (.wrsubkey 15) [.complete])).sk.get 15 ≠ (inFlight (.wrsubkey 15) [.complete]).sk.get 15 ∧
    (after { inFlight (.wrsubkey 15) [.complete] with skv := 0x7FFF }).skv.getLsbD 15 = true :=
  ⟨rfl, by decide, by decide, by decide, by decide⟩

theorem witness_DataOutIsWrittenByCipherCompletionOnly :
    (ResetNow (inFlight .encrypt [.reset]) ∧ step (inFlight .encrypt [.reset]) = .next (after (inFlight .encrypt [.reset]))) ∧
    (¬ResetNow (inFlight .encrypt [.complete]) ∧
      step (inFlight .encrypt [.complete]) = .next (after (inFlight .encrypt [.complete])) ∧
      (after (inFlight .encrypt [.complete])).dataOut ≠ (inFlight .encrypt [.complete]).dataOut) :=
  ⟨⟨by decide, rfl⟩, by decide, rfl, by decide +kernel⟩

theorem witness_OverrunFlagIsSticky :
    (ResetNow (status1E [.rst true]) ∧ step (status1E [.rst true]) = .next (after (status1E [.rst true]))) ∧
    (¬ResetNow (inFlight .nop [cmd 0x6]) ∧ step (inFlight .nop [cmd 0x6]) = .next (after (inFlight .nop [cmd 0x6]))) :=
  ⟨⟨by decide, rfl⟩, by decide, rfl⟩

theorem witness_BusyAndDoneFollowIssueAndCompletion :
    (ResetNow (status1E [.reset]) ∧ step (status1E [.reset]) = .next (after (status1E [.reset]))) ∧
    (¬ResetNow (loaded [cmd 0x1]) ∧ step (loaded [cmd 0x1]) = .next (after (loaded [cmd 0x1])) ∧
      (loaded [cmd 0x1]).busy = false ∧ (after (loaded [cmd 0x1])).busy = true) ∧
    (¬ResetNow (inFlight .nop [.complete]) ∧ step (inFlight .nop [.complete]) = .next (after (inFlight .nop [.complete])) ∧
      (inFlight .nop [.complete]).busy = true ∧ (after (inFlight .nop [.complete])).busy = false) ∧
    (¬ResetNow (loaded [cmd 0x6]) ∧ step (loaded [cmd 0x6]) = .next (after (loaded [cmd 0x6])) ∧
      (loaded [cmd 0x6]).busy = (after (loaded [cmd 0x6])).busy ∧ (loaded [cmd 0x6]).done = false ∧
      (after (loaded [cmd 0x6])).done = true) ∧
    (¬ResetNow (status1E [.host (.write 0x1 0x2)]) ∧
      step (status1E [.host (.write 0x1 0x2)]) = .next (after (status1E [.host (.write 0x1 0x2)])) ∧
      (status1E [.host (.write 0x1 0x2)]).busy = (after (status1E [.host (.write 0x1 0x2)])).busy ∧
      (status1E [.host (.write 0x1 0x2)]).done = true ∧ (after (status1E [.host (.write 0x1 0x2)])).done = false) :=
  ⟨⟨by decide, rfl⟩, ⟨by decide, rfl, by decide, by decide⟩, ⟨by decide, rfl, by decide, by decide⟩,
    ⟨by decide, rfl, by decide, by decide, by decide⟩, by decide, rfl, by decide, by decide, by decide⟩

theorem witness_ErrIsWrittenByIssueAndStatusWriteOnly :
    (ResetNow (status1E [.reset]) ∧ step (status1E [.reset]) = .next (after (status1E [.reset]))) ∧
    (¬ResetNow (loaded [cmd 0x6]) ∧ step (loaded [cmd 0x6]) = .next (after (loaded [cmd 0x6])) ∧
      (after (loaded [cmd 0x6])).err ≠ (loaded [cmd 0x6]).err) :=
  ⟨⟨by decide, rfl⟩, by decide, rfl, by decide⟩

theorem witness_ResetReachesTheResetState : (inFlight .loadkey [.reset]).inputs = .reset :: [] := by decide

theorem witness_ResetForgetsTheCommandInFlight :
    (inFlight .loadkey [.reset]).inputs = .reset :: [] ∧ (status1E [.reset]).inputs = .reset :: [] ∧
    (inFlight .loadkey [.reset]).lat = (status1E [.reset]).lat ∧
    (inFlight .loadkey [.reset]).rst = (status1E [.reset]).rst ∧
    (inFlight .loadkey [.reset]).rdata = (status1E [.reset]).rdata := by decide

theorem witness_ResetPinHoldsTheMachine :
    ((atReset [.host (.read 0x1)]).inputs = .host (.read 0x1) :: [] ∧ { atReset [.host (.read 0x1)] with rst := true }.rst = true) ∧
    (inFlight .loadkey [.rst true]).inputs = .rst true :: [] ∧
    ({ atReset [] with rst := true }.rst = true ∧ (atReset []).inputs = []) ∧
    { atReset [.rst false, .host (.write 0x2 5)] with rst := true }.inputs = .rst false :: .host (.write 0x2 5) :: [] ∧
    { atReset [.rst false, .clock (some (.read 0x6))] with rst := true }.inputs =
      .rst false :: .clock (some (.read 0x6)) :: [] := by decide

theorem witness_EveryStepKeepsTheStatusInvariant :
    StatusInv (inFlight .encrypt [.complete]) ∧ step (inFlight .encrypt [.complete]) = .next (after (inFlight .encrypt [.complete])) :=
  ⟨by decide, rfl⟩

theorem witness_EveryStepKeepsThePinInvariant :
    PinInv { atReset [.host (.read 0x1)] with rst := true } ∧
    step { atReset [.host (.read 0x1)] with rst := true } = .next (after { atReset [.host (.read 0x1)] with rst := true }) :=
  ⟨by decide, rfl⟩

/-- LOADKEY with its cycle 0 done, in the middle of its cycles. -/
theorem witness_EveryStepKeepsTheSequencerInvariant :
    SequencerInv (engineTick (inFlight .loadkey [.clock none])) ∧
    step (engineTick (inFlight .loadkey [.clock none])) = .next (after (engineTick (inFlight .loadkey [.clock none]))) :=
  ⟨(machineInv_of_invCheck (by decide +kernel)).2.2, rfl⟩

/-- DECRYPT from the loaded state, its accepted CMD write and then `n` clock cycles without an access. -/
def decryptRun (n : Nat) : State := loaded (.clock (some (.write 0x0 (encode .decrypt))) :: List.replicate n (.clock none))

theorem witness_CommandsTakeTheirLatency :
    (decryptRun 18).rst = false ∧ (decryptRun 18).busy = false ∧ keyReady .decrypt (decryptRun 18) = true ∧
    0 < latency (opOf .decrypt) (decryptRun 18) ∧
    (List.replicate 18 none : List (Option Access)).length ≤ latency (opOf .decrypt) (decryptRun 18) ∧
    (decryptRun 18).inputs =
      .clock (some (.write 0x0 (encode .decrypt))) :: ((List.replicate 18 none).map .clock ++ []) := by decide

/-- Cycle 17 of DECRYPT and cycle 16 of LOADKEY lie within their windows. -/
theorem witness_SequencerGoesOneRoundACycle :
    (decryptRun 17).rst = false ∧ (decryptRun 17).busy = false ∧ keyReady .decrypt (decryptRun 17) = true ∧
    17 < latency (opOf .decrypt) (decryptRun 17) ∧ 16 < latency (opOf .loadkey) (decryptRun 17) ∧
    (decryptRun 17).inputs = .clock (some (.write 0x0 (encode .decrypt))) :: (List.replicate 17 (.clock none) ++ []) := by
  decide

theorem witness_SequencerRefinesTheAtomicCompletion :
    (loaded []).rst = false ∧ (loaded []).busy = false ∧ keyReady .encrypt (loaded []) = true ∧
    0 < latency (opOf .encrypt) (loaded []) := by decide

/-- WRSUBKEY's one cycle ends it. -/
theorem witness_LastCycleEqualsTheAtomicCompletion :
    SequencerInv (inFlight (.wrsubkey 15) []) ∧ (inFlight (.wrsubkey 15) []).rst = false ∧
    (inFlight (.wrsubkey 15) []).busy = true ∧
    step { inFlight (.wrsubkey 15) [] with inputs := [.clock none] } = .next (after (inFlight (.wrsubkey 15) [.clock none])) ∧
    (after (inFlight (.wrsubkey 15) [.clock none])).busy = false ∧
    step { inFlight (.wrsubkey 15) [] with inputs := [.complete] } = .next (after (inFlight (.wrsubkey 15) [.complete])) :=
  ⟨(machineInv_of_invCheck (by decide +kernel)).2.2, by decide, by decide, rfl, by decide, rfl⟩

theorem witness_HostAccessComesFirstInACycle :
    (inFlight .nop [.clock (some (.write 0x0 0x1))]).rst = false ∧ (inFlight .nop [.clock (some (.write 0x0 0x1))]).busy = true ∧
    (inFlight .nop [.clock (some (.write 0x0 0x1))]).inputs = .clock (some (.write 0x0 0x1)) :: [] ∧
    (inFlight .nop [.clock none]).inputs = .clock none :: [] ∧
    (loaded [.clock none]).rst = false ∧ (loaded [.clock none]).busy = false ∧
    (loaded [.clock none]).inputs = .clock none :: [] ∧
    (loaded [.clock (some (.read 0x1))]).inputs = .clock (some (.read 0x1)) :: [] := by decide

/-- Two reset states whose SK, latch and working registers differ. -/
theorem witness_UnspecifiedContentsAreUnobservable :
    MachineInv (atReset [cmd 0x25]) ∧ MachineInv { atReset [cmd 0x25] with sk := Vector.replicate 16 7, opnd := 9, rc := 17, workC := 3 } ∧
    SameToHost (atReset [cmd 0x25]) { atReset [cmd 0x25] with sk := Vector.replicate 16 7, opnd := 9, rc := 17, workC := 3 } ∧
    step (atReset [cmd 0x25]) = .next (after (atReset [cmd 0x25])) ∧
    ∃ t, step { atReset [cmd 0x25] with sk := Vector.replicate 16 7, opnd := 9, rc := 17, workC := 3 } = .next t :=
  ⟨machineInv_of_invCheck (by decide +kernel), machineInv_of_invCheck (by decide +kernel), by decide, rfl, _, rfl⟩

theorem witness_PermuteSelectsThePositionsOfItsTable : 0 < tableE.length ∧ 47 < tableE.length := by decide

theorem witness_PermuteIsLinear : tableOk 64 56 tablePC1 = true := by decide

theorem witness_InverseTableUndoesThePermutation : tableBijective 32 tableP = true := by decide +kernel

theorem witness_RotationIsTheMaskedFormula : ((1 : Nat) = 1 ∨ (1 : Nat) = 2) ∧ ((2 : Nat) = 1 ∨ (2 : Nat) = 2) := by decide

theorem witness_ParityBitsDoNotMatter :
    (0x133457799BBCDFF1 : Word) &&& 0xFEFEFEFEFEFEFEFE = (0x123556789ABDDEF0 : Word) &&& 0xFEFEFEFEFEFEFEFE ∧
    (loaded []).busy = false := by decide

theorem witness_KeyHalvesReturnAfterSixteenRounds :
    splitKey 0x0101010101010101 = splitKey 0x0000000000000000 ∧ (splitKey 0x0101010101010101).c = 0 ∧
    (splitKey 0xFEFEFEFEFEFEFEFE).d = 0xFFFFFFF := by decide +kernel

theorem witness_SboxLanesAreIndependent :
    (0x840000000000 : BitVec 48).extractLsb' (42 - 6 * (7 : Fin 8).val) 6 =
      (0 : BitVec 48).extractLsb' (42 - 6 * (7 : Fin 8).val) 6 := by decide

theorem witness_HostReversalEqualsEngineReversal :
    (∀ i : Fin 16, (#v[16, 15, 14, 13, 12, 11, 10, 9, 8, 7, 6, 5, 4, 3, 2, 1] : SubkeySet).get i = (loaded []).sk.get (15 - i)) ∧
    (inFlight .decrypt []).busy = true ∧ (inFlight .encrypt []).busy = true ∧
    pending (inFlight .decrypt []) = .decrypt ∧ pending (inFlight .encrypt []) = .encrypt ∧
    (inFlight .decrypt []).opnd = (inFlight .encrypt []).opnd := by decide

theorem witness_ComplementingInputsComplementsTheOutput :
    ∀ i : Fin 16, (Vector.replicate 16 0xFFFFFFFFFFFF : SubkeySet).get i = ~~~((Vector.replicate 16 0 : SubkeySet).get i) := by decide

/-- The word a host would read from DATA_OUT after the first completion. -/
def firstResult : Word := (after (after (loaded [cmd 0x2, .complete]))).dataOut

theorem witness_DecryptCommandRestoresTheBlock :
    (loaded [cmd 0x2, .complete, .host (.write 0x3 firstResult), cmd 0x3, .complete]).rst = false ∧
    (loaded [cmd 0x2, .complete, .host (.write 0x3 firstResult), cmd 0x3, .complete]).busy = false ∧
    (loaded [cmd 0x2, .complete, .host (.write 0x3 firstResult), cmd 0x3, .complete]).skv = 0xFFFF ∧
    (loaded [cmd 0x2, .complete, .host (.write 0x3 firstResult), cmd 0x3, .complete]).inputs =
      .host (.write 0x0 0x2) :: .complete :: .host (.write 0x3 firstResult) :: .host (.write 0x0 0x3) :: .complete :: [] ∧
    firstResult = (after (after (loaded [cmd 0x2, .complete, .host (.write 0x3 firstResult), cmd 0x3, .complete]))).dataOut :=
  ⟨rfl, rfl, rfl, rfl, rfl⟩

theorem witness_WaitPollsUntilTheEngineIsIdle :
    asmEnc (.imm 7) 0 1 2 = [.wr .dataIn (.imm 7), .command .encrypt] ++ asmWait 1 2 ++ [.rd .dataOut 0] ∧
    HostStmt.label 1 ∉ [HostStmt.wr .dataIn (.imm 7), HostStmt.command .encrypt] ∧
    (inFlight .encrypt []).rst = false := by decide

theorem witness_ClrstClearsTheStatus : asmClrst ++ [] = asmClrst ∧ (status1E []).rst = false := by decide

end Sys2Proof.Tests
end

/-! SUPPORT. Sitting 1 (10_state.md): a step as a host access followed by the engine's turn, and the rules for DATA_OUT and OVR that follow from it. -/

namespace Sys2Proof.Proofs

open Sys2Proof Sys2Proof.Machine Sys2Proof.Laws

/-! ### The host's access -/

/-- The host's part of a step: its access, if it makes one (20_memory.md R62). -/
def PortTurn (a : Option Access) (s u : State) : Prop :=
  match a with
  | none => u = s
  | some x => hostAccess x s = .next u

@[simp] theorem portTurn_none (s u : State) : PortTurn none s u ↔ u = s := Iff.rfl

@[simp] theorem portTurn_some (x : Access) (s u : State) : PortTurn (some x) s u ↔ hostAccess x s = .next u := Iff.rfl

/-- No access writes DATA_OUT or the subkey file, and none touches a command in flight (20_memory.md R53, 45_interface_commands.md R191). -/
theorem hostAccess_frame (a : Access) (s u : State) (h : hostAccess a s = .next u) :
    u.dataOut = s.dataOut ∧ u.sk = s.sk ∧ u.skv = s.skv ∧
    (s.busy = true → u.busy = true ∧ u.pendOp = s.pendOp ∧ u.pendIdx = s.pendIdx ∧ u.opnd = s.opnd) := by
  obtain ⟨addr, -, rfl⟩ | ⟨w, -, hw⟩ | ⟨v, -, rfl⟩ | ⟨addr, v, -, -, -, rfl⟩ := hostAccess_cases a s u h
  · simp
  · obtain ⟨hb, rfl⟩ | ⟨hb, -, rfl⟩ | ⟨hb, i, -, -, rfl⟩ | ⟨hb, i, -, -, rfl⟩ := issue_cases w s u hw <;> simp [hb]
  · simp
  · simp

theorem portTurn_frame (a : Option Access) (s u : State) (h : PortTurn a s u) :
    u.dataOut = s.dataOut ∧ u.sk = s.sk ∧ u.skv = s.skv ∧
    (s.busy = true → u.busy = true ∧ u.pendOp = s.pendOp ∧ u.pendIdx = s.pendIdx ∧ u.opnd = s.opnd) := by
  cases a with
  | none => obtain rfl := (portTurn_none s u).mp h; simp
  | some x => exact hostAccess_frame x s u h

/-- A CMD write sets OVR exactly while BUSY = 1 (45_interface_commands.md R191). -/
theorem issue_ovr (w : Word) (s u : State) (h : issue w s = .next u) : u.ovr = (s.busy || s.ovr) := by
  obtain ⟨hb, rfl⟩ | ⟨hb, -, rfl⟩ | ⟨hb, i, -, -, rfl⟩ | ⟨hb, i, -, -, rfl⟩ := issue_cases w s u h <;> simp [hb]

/-- OVR after the host's access: a CMD write while BUSY = 1 sets it, a 1 written to STATUS bit 3 clears it (10_state.md R31). -/
theorem portTurn_ovr (a : Option Access) (s u : State) (h : PortTurn a s u) :
    u.ovr = true ↔
      (s.busy = true ∧ ∃ w, a = some (.write 0x0 w)) ∨
      (s.ovr = true ∧ ∀ v, a = some (.write 0x1 v) → v.getLsbD 3 = false) := by
  cases a with
  | none => obtain rfl := (portTurn_none s u).mp h; simp
  | some x =>
    obtain ⟨addr, rfl, rfl⟩ | ⟨w, rfl, hw⟩ | ⟨v, rfl, rfl⟩ | ⟨addr, v, rfl, h0, h1, rfl⟩ := hostAccess_cases x s u h
    · simp
    · simp [issue_ovr w s u hw]
    · simp
    · have hcmd : addr ≠ 0#4 := h0
      have hstatus : addr ≠ 1#4 := h1
      simp [hcmd, hstatus]

/-! ### The engine's turn -/

/-- The engine's part of a step that finds a command in flight: one cycle, or the whole completion (45_interface_commands.md R196, 70_reset_and_hazards.md R242). -/
def EngineTurn (u t : State) : Prop := t = engineTick u ∨ t = finish (effectOf (pending u) u)

theorem engineTurn_ovr (u t : State) (h : EngineTurn u t) : t.ovr = u.ovr := by
  obtain rfl | rfl := h
  · obtain ⟨-, hovr, -⟩ := engineTick_frame u
    exact hovr
  · obtain ⟨-, -, hovr, -⟩ := effectOf_frame (pending u) u
    simpa using hovr

/-- Of the six effects only ENCRYPT's and DECRYPT's write DATA_OUT (44_block_cipher.md R178, R179). -/
theorem effectOf_pending_dataOut (s : State) (h : (effectOf (pending s) s).dataOut ≠ s.dataOut) :
    s.pendOp = .encrypt ∨ s.pendOp = .decrypt := by
  cases ho : s.pendOp with
  | encrypt => exact .inl rfl
  | decrypt => exact .inr rfl
  | nop | loadkey | wrsubkey | rdsubkey => exact absurd (by rw [pending, ho]; rfl) h

theorem endCycle_dataOut (s : State) (h : (endCycle s).dataOut ≠ s.dataOut) :
    s.pendOp = .encrypt ∨ s.pendOp = .decrypt := by
  obtain e | ⟨-, -, e⟩ | ⟨ho, -, -⟩ := endCycle_cases s
  · exact effectOf_pending_dataOut s (by simpa [e] using h)
  · simp [e] at h
  · exact ho

/-- An engine cycle that changes DATA_OUT ends an ENCRYPT or a DECRYPT (44_block_cipher.md R181). -/
theorem engineTick_dataOut (s : State) (h : (engineTick s).dataOut ≠ s.dataOut) :
    (engineTick s).busy = false ∧ (s.pendOp = .encrypt ∨ s.pendOp = .decrypt) := by
  cases hb : s.busy with
  | false => simp [engineTick_idle s hb] at h
  | true =>
    by_cases hw : s.window ≤ 1
    · rw [engineTick_last s hb hw] at h ⊢
      have hframe := endCycle_frame s
      exact ⟨by simp [hframe], endCycle_dataOut s h⟩
    · rw [engineTick_work s hb (by omega)] at h
      have hframe := workCycle_frame (countCycle s)
      simp [hframe] at h

theorem engineTurn_dataOut (u t : State) (h : EngineTurn u t) (hd : t.dataOut ≠ u.dataOut) :
    t.busy = false ∧ (u.pendOp = .encrypt ∨ u.pendOp = .decrypt) := by
  obtain rfl | rfl := h
  · exact engineTick_dataOut u hd
  · exact ⟨finish_busy _, effectOf_pending_dataOut u (by simpa using hd)⟩

/-! ### A step -/

/-- A step in reset leaves every register at its reset value (70_reset_and_hazards.md R230, R232). -/
theorem step_resetNow (s t : State) (h : step s = .next t) (hr : ResetNow s) : t = resetRegs t := by
  obtain ⟨-, -, rfl⟩ | ⟨hi, hp, -⟩ | ⟨e, rest, -, -, rfl⟩ | ⟨e, rest, hi, hp, ht⟩ := step_cases s t h
  · rfl
  · simp [ResetNow, hi, hp] at hr
  · rfl
  · have he : e = .reset ∨ e = .rst true := by simpa [ResetNow, hi, hp] using hr
    obtain rfl | rfl := he <;> obtain rfl := Host.Outcome.next.inj ht <;> rfl

/-- The engine's turn as an input of its own. -/
theorem complete_engineTurn (s t : State) (h : complete s = .next t) : t = s ∨ (s.busy = true ∧ EngineTurn s t) := by
  cases hb : s.busy with
  | false =>
    rw [complete_idle s hb] at h
    exact .inl (Host.Outcome.next.inj h).symm
  | true =>
    rw [complete_busy s hb] at h
    exact .inr ⟨rfl, .inr (Host.Outcome.next.inj h).symm⟩

/-- A clock cycle is the host's access, and then an engine cycle if a command was in flight before it (20_memory.md R62). -/
theorem clockCycle_turns (a : Option Access) (s t : State) (h : clockCycle a s = .next t) :
    ∃ u, PortTurn a s u ∧ (t = u ∨ (s.busy = true ∧ EngineTurn u t)) := by
  obtain ⟨-, rfl, rfl⟩ | ⟨-, x, rfl, hx⟩ | ⟨hb, rfl, rfl⟩ | ⟨hb, x, u, rfl, hx, rfl⟩ := clockCycle_cases a s t h
  · exact ⟨t, rfl, .inl rfl⟩
  · exact ⟨t, hx, .inl rfl⟩
  · exact ⟨s, rfl, .inr ⟨hb, .inl rfl⟩⟩
  · exact ⟨u, hx, .inr ⟨hb, .inl rfl⟩⟩

/-- An input that does not reset the machine is the host's access, and then perhaps the engine's turn (45_interface_commands.md R201). -/
theorem takeLive_turns (e : Input) (s t : State) (h : takeLive e s = .next t) (hreset : e ≠ .reset)
    (hrise : e ≠ .rst true) :
    ∃ u, PortTurn (accessOf e) s u ∧ (t = u ∨ (s.busy = true ∧ EngineTurn u t)) := by
  cases e with
  | host a => exact ⟨t, h, .inl rfl⟩
  | complete => exact ⟨s, rfl, complete_engineTurn s t h⟩
  | clock a => exact clockCycle_turns a s t h
  | reset => exact absurd rfl hreset
  | rst level =>
    cases level with
    | false => exact ⟨s, rfl, .inl (Host.Outcome.next.inj h).symm⟩
    | true => exact absurd rfl hrise

theorem withInputs_self (s : State) : withInputs s.inputs s = s := rfl

/-- A step outside reset is the host's access, if it makes one, and then perhaps the engine's turn, which needs a command that was in flight before the access (45_interface_commands.md R201, 20_memory.md R62). -/
theorem step_turns (s t : State) (h : step s = .next t) (hr : ¬ResetNow s) :
    ∃ u, PortTurn (nextAccess s) (withInputs s.inputs.tail s) u ∧ (t = u ∨ (s.busy = true ∧ EngineTurn u t)) := by
  obtain ⟨-, hp, -⟩ | ⟨hi, -, hc⟩ | ⟨e, rest, -, hp, -⟩ | ⟨e, rest, hi, -, ht⟩ := step_cases s t h
  · exact absurd (.inl hp) hr
  · have hs : withInputs s.inputs.tail s = s := by rw [hi, List.tail_nil, ← hi, withInputs_self]
    exact ⟨s, by simpa [nextAccess, hi] using hs.symm, complete_engineTurn s t hc⟩
  · exact absurd (.inl hp) hr
  · have hreset : e ≠ .reset := fun he => hr (.inr (.inl (by simp [hi, he])))
    have hrise : e ≠ .rst true := fun he => hr (.inr (.inr (by simp [hi, he])))
    simpa [nextAccess, hi] using takeLive_turns e _ t ht hreset hrise

/-! ### The statements -/

/-- Settles O26: no access writes DATA_OUT, and of the engine's turns only the end of a cipher command does. -/
theorem dataOutIsWrittenByCipherCompletionOnly : Obligations.DataOutIsWrittenByCipherCompletionOnly := by
  intro s t h
  refine ⟨fun hr => congrArg State.dataOut (step_resetNow s t h hr), fun hr hd => ?_⟩
  obtain ⟨u, hu, ht⟩ := step_turns s t h hr
  obtain ⟨hdu, -, -, hlatch⟩ := portTurn_frame _ _ u hu
  rw [withInputs_dataOut] at hdu
  obtain rfl | ⟨hb, he⟩ := ht
  · exact absurd hdu hd
  · obtain ⟨-, hop, -⟩ := hlatch hb
    obtain ⟨hidle, hcipher⟩ := engineTurn_dataOut u t he (hdu ▸ hd)
    rw [hop, withInputs_pendOp] at hcipher
    exact ⟨hb, hidle, hcipher⟩

/-- Settles O27: the host's access sets or clears OVR, and the engine's turn leaves it. -/
theorem overrunFlagIsSticky : Obligations.OverrunFlagIsSticky := by
  intro s t h
  refine ⟨fun hr => congrArg State.ovr (step_resetNow s t h hr), fun hr => ?_⟩
  obtain ⟨u, hu, ht⟩ := step_turns s t h hr
  have hovr : t.ovr = u.ovr := by
    obtain rfl | ⟨-, he⟩ := ht
    · rfl
    · exact engineTurn_ovr u t he
  rw [hovr]
  simpa only [withInputs_busy, withInputs_ovr] using portTurn_ovr _ _ u hu

end Sys2Proof.Proofs

/-! SUPPORT. Sitting 2 (20_memory.md): one host access by the register map, the byte order of a block, and the rules that follow from them. -/

namespace Sys2Proof.Proofs

open Sys2Proof Sys2Proof.Machine Sys2Proof.Laws

/-! ### One access of the register map -/

/-- A read's turn sets the value returned and no register (20_memory.md R52, R58). -/
theorem step_read (s : State) (a : Addr) (rest : List Input) (hr : s.rst = false)
    (h : s.inputs = .host (.read a) :: rest) : step s = .next { s with inputs := rest, rdata := regRead a s } :=
  step_host s _ rest hr h

theorem step_write (s : State) (a : Addr) (v : Word) (rest : List Input) (hr : s.rst = false)
    (h : s.inputs = .host (.write a v) :: rest) : step s = regWrite a v (withInputs rest s) :=
  step_host s _ rest hr h

/-- The addresses from 0x7 on are none of the seven registers' (20_memory.md R50, R54). -/
theorem regRead_reserved (a : Addr) (s : State) (ha : 7 ≤ a.toNat) : regRead a s = 0 := by
  have hne (b : Addr) (hb : b.toNat < 7) : a ≠ b := by
    rintro rfl
    omega
  simp [regRead, hne]

/-- A write takes effect only at CMD, STATUS, KEY_IN, DATA_IN and SUBKEY_IO (20_memory.md R53). -/
theorem regWrite_ignored (a : Addr) (v : Word) (s : State) (h : a = 0x4 ∨ 6 ≤ a.toNat) :
    regWrite a v s = .next s := by
  have hne (b : Addr) (hb : b.toNat < 6 ∧ b ≠ 0x4) : a ≠ b := by
    rintro rfl
    obtain rfl | ha := h
    · exact hb.2 rfl
    · omega
  simp [regWrite, dataWrite, hne]

/-! ### The bytes of a block -/

theorem unpackBlock_get (v : Word) (j : Fin 8) : (unpackBlock v).get j = blockByte v j := by
  fin_cases j <;> rfl

/-- Byte by byte: each append is passed over on the side where the byte does not lie. -/
theorem blockByte_packBlock (bytes : Vector (BitVec 8) 8) (j : Fin 8) :
    blockByte (packBlock bytes) j = bytes.get j := by
  fin_cases j <;>
    simp (disch := decide) only [blockByte, packBlock, BitVec.extractLsb'_append_eq_of_le,
      BitVec.extractLsb'_append_eq_of_add_le] <;>
    exact BitVec.extractLsb'_eq_self

/-- Bit `i` of a block is bit `i % 8` of its byte `7 - i / 8`. -/
theorem getLsbD_eq_blockByte (v : Word) (i : Nat) (hi : i < 64) :
    v.getLsbD i = (blockByte v ⟨7 - i / 8, by omega⟩).getLsbD (i % 8) := by
  have hpos : 56 - 8 * (7 - i / 8) + i % 8 = i := by omega
  simp [blockByte, hpos, Nat.mod_lt]

/-- A block is its eight bytes. -/
theorem block_ext (v w : Word) (h : ∀ j, blockByte v j = blockByte w j) : v = w := by
  apply BitVec.eq_of_getLsbD_eq
  intro i hi
  rw [getLsbD_eq_blockByte v i hi, getLsbD_eq_blockByte w i hi, h]

theorem packBlock_unpackBlock (v : Word) : packBlock (unpackBlock v) = v :=
  block_ext _ _ fun j => by rw [blockByte_packBlock, unpackBlock_get]

/-- DES position 1 of a block is the top bit of its byte 0 (00_scope.md R11, 20_memory.md R57). -/
theorem desPos_one (v : Word) : desPos v 1 = (blockByte v 0).msb := by
  rw [BitVec.msb_eq_getLsbD_last]
  exact getLsbD_eq_blockByte v 63 (by decide)

/-! ### The statements -/

/-- Settles O19: the value returned is `regRead`'s, address by address. -/
theorem registerReadsFollowTheMap : Obligations.RegisterReadsFollowTheMap := by
  intro s a rest hr h
  refine ⟨regRead a s, step_read s a rest hr h, ?_, ?_, ?_, ?_, ?_, ?_, ?_, regRead_reserved a s⟩ <;>
    · rintro rfl
      rfl

/-- Settles O20: five addresses have an effect, and every other one is ignored. -/
theorem registerWritesFollowTheMap : Obligations.RegisterWritesFollowTheMap := by
  intro s a v rest hr h
  have hw := step_write s a v rest hr h
  have hignored (ha : a = 0x4 ∨ 6 ≤ a.toNat) : step s = .next { s with inputs := rest } :=
    hw.trans (regWrite_ignored a v _ ha)
  refine ⟨?cmd, ?status, ?keyIn, ?dataIn, fun ha => hignored (.inl ha), ?subkeyIo,
    fun ha => hignored (.inr (by simp [ha])), fun ha => hignored (.inr (by omega))⟩ <;>
    · rintro rfl
      exact hw

/-- Settles O21: a reserved address reads 0, and a write to it is ignored. -/
theorem reservedAddressesReadZeroAndIgnoreWrites : Obligations.ReservedAddressesReadZeroAndIgnoreWrites := by
  intro s a v rest hr ha
  constructor <;> intro h
  · rw [step_read s a rest hr h, regRead_reserved a s ha]
  · exact (step_write s a v rest hr h).trans (regWrite_ignored a v _ (.inr (by omega)))

/-- Settles O24: packing puts each byte in its place, and a block is its eight bytes. -/
theorem blocksArePackedBigEndian : Obligations.BlocksArePackedBigEndian :=
  ⟨blockByte_packBlock,
    fun bytes j => by rw [unpackBlock_get, blockByte_packBlock],
    packBlock_unpackBlock,
    fun bytes => by rw [desPos_one, blockByte_packBlock]⟩

end Sys2Proof.Proofs

/-! SUPPORT. Sitting 3 (30_encoding.md): a command word by its three fields, and the rows of the mask-and-match test. -/

namespace Sys2Proof.Proofs

open Sys2Proof

/-! ### A word and its fields -/

/-- The three fields are the whole word (30_encoding.md R70). -/
theorem append_fieldsOf (w : Word) : (fieldsOf w).rsv ++ ((fieldsOf w).idx ++ (fieldsOf w).op) = w := by
  have hlow : (fieldsOf w).idx ++ (fieldsOf w).op = w.extractLsb' 0 8 :=
    BitVec.extractLsb'_append_extractLsb'_eq_extractLsb' rfl
  rw [hlow]
  exact (BitVec.extractLsb'_append_extractLsb'_eq_extractLsb' rfl).trans BitVec.extractLsb'_eq_self

theorem fieldsOf_inj {w v : Word} : fieldsOf w = fieldsOf v ↔ w = v :=
  ⟨fun h => by rw [← append_fieldsOf w, h, append_fieldsOf], congrArg fieldsOf⟩

/-- The mask-and-match test of one row, field by field (30_encoding.md R75). -/
theorem rowMatches_iff_fields (w : Word) (r : OpcodeRow) :
    rowMatches w r = true ↔
      (fieldsOf w).rsv &&& (fieldsOf r.mask).rsv = (fieldsOf r.value).rsv ∧
      (fieldsOf w).idx &&& (fieldsOf r.mask).idx = (fieldsOf r.value).idx ∧
      (fieldsOf w).op &&& (fieldsOf r.mask).op = (fieldsOf r.value).op := by
  rw [rowMatches, beq_iff_eq, ← fieldsOf_inj]
  simp [fieldsOf, BitVec.extractLsb'_and]

/-! ### The field form -/

/-- OP and IDX of a legal word: an OP that takes no index has IDX = 0 (30_encoding.md R75). -/
def OpIdxForm (op idx : BitVec 4) : Prop :=
  (op ∈ [0x0#4, 0x1#4, 0x2#4, 0x3#4] ∧ idx = 0) ∨ op ∈ [0x4#4, 0x5#4]

/-- R75's field form of a legal word (30_encoding.md). -/
def FieldForm (c : CommandFields) : Prop := c.rsv = 0 ∧ OpIdxForm c.op c.idx

/-- R75's row of an OP without an index (30_encoding.md). -/
def plainRow (op : BitVec 4) : OpcodeRow := ⟨0xFFFFFFFFFFFFFFFF, op.setWidth 64⟩

/-- R75's row of an OP with an index: the mask leaves IDX out (30_encoding.md). -/
def indexedRow (op : BitVec 4) : OpcodeRow := ⟨0xFFFFFFFFFFFFFF0F, op.setWidth 64⟩

theorem opcodeRows_eq :
    opcodeRows = [0x0#4, 0x1#4, 0x2#4, 0x3#4].map plainRow ++ [0x4#4, 0x5#4].map indexedRow := rfl

theorem fieldsOf_setWidth (op : BitVec 4) : fieldsOf (op.setWidth 64) = ⟨0, 0#4, op⟩ := by
  revert op
  decide

theorem rowMatches_plainRow (w : Word) (op : BitVec 4) :
    rowMatches w (plainRow op) = true ↔ (fieldsOf w).rsv = 0 ∧ (fieldsOf w).idx = 0#4 ∧ (fieldsOf w).op = op := by
  have hmask : fieldsOf 0xFFFFFFFFFFFFFFFF = ⟨BitVec.allOnes 56, BitVec.allOnes 4, BitVec.allOnes 4⟩ := by decide
  simp only [rowMatches_iff_fields, plainRow, hmask, fieldsOf_setWidth, BitVec.and_allOnes]

theorem rowMatches_indexedRow (w : Word) (op : BitVec 4) :
    rowMatches w (indexedRow op) = true ↔ (fieldsOf w).rsv = 0 ∧ (fieldsOf w).op = op := by
  have hmask : fieldsOf 0xFFFFFFFFFFFFFF0F = ⟨BitVec.allOnes 56, 0#4, BitVec.allOnes 4⟩ := by decide
  simp only [rowMatches_iff_fields, indexedRow, hmask, fieldsOf_setWidth, BitVec.and_allOnes, BitVec.and_zero, true_and]

/-- The mask-and-match test is the field form: four rows ask for IDX = 0, and two take any. -/
theorem legal_iff_fieldForm (w : Word) : legal w = true ↔ FieldForm (fieldsOf w) := by
  simp only [legal, opcodeRows_eq, List.any_append, List.any_map, Bool.or_eq_true, List.any_eq_true, Function.comp_apply,
    rowMatches_plainRow, rowMatches_indexedRow, FieldForm, OpIdxForm]
  constructor
  · rintro (⟨op, hop, hrsv, hidx, rfl⟩ | ⟨op, hop, hrsv, rfl⟩)
    · exact ⟨hrsv, .inl ⟨hop, hidx⟩⟩
    · exact ⟨hrsv, .inr hop⟩
  · rintro ⟨hrsv, ⟨hop, hidx⟩ | hop⟩
    · exact .inl ⟨_, hop, hrsv, hidx, rfl⟩
    · exact .inr ⟨_, hop, hrsv, rfl⟩

/-- The limits on OP (R71) and on IDX (R72) are together R75's two cases (30_encoding.md). -/
theorem opIdxForm_iff (op idx : BitVec 4) :
    OpIdxForm op idx ↔ (op.ule 5 && (op == 4 || op == 5 || idx == 0)) = true := by
  unfold OpIdxForm
  revert op idx
  decide

theorem wf_iff_fieldForm (c : CommandFields) : c.wf = true ↔ FieldForm c := by
  rw [FieldForm, opIdxForm_iff, CommandFields.wf, Bool.and_assoc, Bool.and_eq_true, CommandFields.rsvOk, beq_iff_eq,
    CommandFields.opOk, CommandFields.idxOk]

theorem plainCommand_legal_iff (idx : BitVec 4) (i : Instr) : (∃ j, plainCommand idx i = .legal j) ↔ idx = 0 := by
  unfold plainCommand
  split <;> simp only [*, Decoded.legal.injEq, exists_eq', reduceCtorEq, exists_false]

theorem decodeOp_legal_iff (op idx : BitVec 4) : (∃ i, decodeOp op idx = .legal i) ↔ OpIdxForm op idx := by
  unfold decodeOp OpIdxForm
  split_ifs <;> simp_all [plainCommand_legal_iff]

theorem decode_legal_iff_fieldForm (w : Word) : (∃ i, decode w = .legal i) ↔ FieldForm (fieldsOf w) := by
  rw [FieldForm, ← decodeOp_legal_iff, decode]
  split <;> simp only [*, true_and, false_and, reduceCtorEq, exists_false]

/-! ### The rows -/

/-- Two rows that both take a word agree where both their masks look. -/
theorem values_agree_of_rowMatches {w : Word} {a b : OpcodeRow} (ha : rowMatches w a = true) (hb : rowMatches w b = true) :
    a.value &&& b.mask = b.value &&& a.mask := by
  rw [rowMatches, beq_iff_eq] at ha hb
  rw [← ha, ← hb, BitVec.and_assoc, BitVec.and_assoc, BitVec.and_comm a.mask]

/-- No word matches two rows of R75 (30_encoding.md). -/
theorem opcodeRows_disjoint (w : Word) :
    opcodeRows.Pairwise (fun a b => ¬(rowMatches w a = true ∧ rowMatches w b = true)) := by
  have hdiffer : opcodeRows.Pairwise (fun a b => a.value &&& b.mask ≠ b.value &&& a.mask) := by decide
  exact hdiffer.imp fun hne ⟨ha, hb⟩ => hne (values_agree_of_rowMatches ha hb)

/-! ### The statement -/

/-- Settles O6: each of the three tests is the field form, and two rows differ where both their masks look. -/
theorem legalWordsAreExactlyTheFieldForms : Obligations.LegalWordsAreExactlyTheFieldForms := fun w =>
  ⟨legal_iff_fieldForm w,
    (legal_iff_fieldForm w).trans (decode_legal_iff_fieldForm w).symm,
    (legal_iff_fieldForm w).trans (wf_iff_fieldForm (fieldsOf w)).symm,
    opcodeRows_disjoint w⟩

end Sys2Proof.Proofs

/-! SUPPORT. Sitting 4 (40_bit_permuter.md): permute bit by bit, and the inverse table of a bijection. -/

namespace Sys2Proof.Proofs

open Sys2Proof Sys2Proof.Machine Sys2Proof.Laws

/-! ### The bits of permute -/

/-- One pass of R101's loop moves every bit up by one and puts the selected one at the low end. -/
theorem getLsbD_permuteStep {n m : Nat} (v : BitVec n) (r : BitVec m) (t i : Nat) (hi : i < m) :
    (permuteStep m v r t).getLsbD i = if i = 0 then desPos v t else r.getLsbD (i - 1) := by
  cases i with
  | zero => simp [permuteStep, hi]
  | succ i => simp [permuteStep, hi, BitVec.getLsbD_eq_getElem (show i < m by omega)]

/-- The loop of R101 appends at the low end, so bit `i` of the result is what the entry `i` places before the last one selects. -/
theorem getLsbD_permute {n m : Nat} (v : BitVec n) (table : List Nat) (i : Nat) (hi : i < m) :
    (permute m v table).getLsbD i = table.reverse[i]?.any (desPos v) := by
  induction table using List.reverseRecOn generalizing i with
  | nil => simp
  | append_singleton table t ih =>
    rw [permute_append_entry, getLsbD_permuteStep _ _ _ _ hi, List.reverse_append]
    cases i with
    | zero => simp
    | succ i => simp [ih i (by omega)]

/-- Position `j + 1` of the result is `j` places from its high end, and so is entry `j` from the first (R101). -/
theorem desPos_permute {n m : Nat} (v : BitVec n) (table : List Nat) (hlen : table.length = m) (j : Nat)
    (hj : j < table.length) : desPos (permute m v table) (j + 1) = desPos v table[j] := by
  have hrev : table.reverse[m - (j + 1)]? = some table[j] := by
    rw [List.getElem?_reverse (by omega), show table.length - 1 - (m - (j + 1)) = j by omega,
      List.getElem?_eq_getElem hj]
  rw [desPos, getLsbD_permute _ _ _ (by omega), hrev, Option.any_some]

/-- Settles O43: the bits of permute counted from the high end, at the table's own length. -/
theorem permuteSelectsThePositionsOfItsTable : Obligations.PermuteSelectsThePositionsOfItsTable :=
  fun _ v table j h => desPos_permute v table rfl j h

/-- Two values that agree at every DES position are equal (00_scope.md R11). -/
theorem eq_of_desPos_eq {n : Nat} {a b : BitVec n} (h : ∀ q < n, desPos a (q + 1) = desPos b (q + 1)) : a = b := by
  refine BitVec.eq_of_getLsbD_eq fun i hi => ?_
  have hpos := h (n - 1 - i) (by omega)
  rwa [desPos, desPos, show n - (n - 1 - i + 1) = i by omega] at hpos

/-! ### The inverse table (40_bit_permuter.md R103) -/

theorem tableBijective_iff (n : Nat) (table : List Nat) :
    tableBijective n table = true ↔ table.length = n ∧ (∀ t ∈ table, 1 ≤ t ∧ t ≤ n) ∧ table.Nodup := by
  simp [tableBijective, tableOk, and_assoc]

/-- A bijective table lists the positions 1 to n in some order: it has n of them, and none twice. -/
theorem perm_positions_of_tableBijective {n : Nat} {table : List Nat} (h : tableBijective n table = true) :
    table.Perm (List.range' 1 n) := by
  obtain ⟨hlen, hrange, hnodup⟩ := (tableBijective_iff n table).mp h
  have hsub : table ⊆ List.range' 1 n := fun t ht => by
    have := hrange t ht
    rw [List.mem_range'_1]
    omega
  exact (hnodup.subperm hsub).perm_of_length_le (by simp [hlen])

theorem mem_of_tableBijective {n : Nat} {table : List Nat} (h : tableBijective n table = true) {q : Nat} (hq : q < n) :
    q + 1 ∈ table := by
  rw [(perm_positions_of_tableBijective h).mem_iff, List.mem_range'_1]
  omega

@[simp] theorem length_inverseTable (table : List Nat) : (inverseTable table).length = table.length := by
  simp [inverseTable]

@[simp] theorem getElem_inverseTable (table : List Nat) (q : Nat) (h : q < (inverseTable table).length) :
    (inverseTable table)[q] = table.idxOf (q + 1) + 1 := by
  simp [inverseTable]

/-- R103's defining equation of the inverse table: no entry occurs twice, so the search for `T[j]` stops at `j`. -/
theorem inverseTable_at_entry {n : Nat} {table : List Nat} (h : tableBijective n table = true) (j : Nat)
    (hj : j < table.length) : (inverseTable table)[table[j] - 1]? = some (j + 1) := by
  obtain ⟨hlen, hrange, hnodup⟩ := (tableBijective_iff n table).mp h
  obtain ⟨hlow, hhigh⟩ := hrange table[j] (List.getElem_mem hj)
  have hin : table[j] - 1 < (inverseTable table).length := by rw [length_inverseTable]; omega
  rw [List.getElem?_eq_getElem hin, getElem_inverseTable, Nat.sub_add_cancel hlow, hnodup.idxOf_getElem]

/-- Position `q + 1` goes to where the table has the entry `q + 1`, and the inverse table brings it back (R103). -/
theorem permute_inverseTable {n : Nat} {table : List Nat} (h : tableBijective n table = true) (v : BitVec n) :
    permute n (permute n v table) (inverseTable table) = v := by
  obtain ⟨hlen, -, -⟩ := (tableBijective_iff n table).mp h
  have hinv : (inverseTable table).length = n := (length_inverseTable table).trans hlen
  refine eq_of_desPos_eq fun q hq => ?_
  have hidx : table.idxOf (q + 1) < table.length := List.idxOf_lt_length_of_mem (mem_of_tableBijective h hq)
  calc desPos (permute n (permute n v table) (inverseTable table)) (q + 1)
      = desPos (permute n v table) (inverseTable table)[q] := desPos_permute _ _ hinv q (by omega)
    _ = desPos (permute n v table) (table.idxOf (q + 1) + 1) := by rw [getElem_inverseTable]
    _ = desPos v table[table.idxOf (q + 1)] := desPos_permute v table hlen _ hidx
    _ = desPos v (q + 1) := by rw [List.getElem_idxOf]

theorem inverseTable_tableIP : inverseTable tableIP = tableFP := by decide

theorem inverseTable_tableFP : inverseTable tableFP = tableIP := by decide

theorem tableBijective_tableP : tableBijective 32 tableP = true := by decide

/-- Settles O45: the inverse of a bijection entry by entry and as a permutation, then the three tables R103 names. -/
theorem inverseTableUndoesThePermutation : Obligations.InverseTableUndoesThePermutation :=
  ⟨fun _ v table h =>
    have ⟨hlen, _, _⟩ := (tableBijective_iff _ table).mp h
    ⟨(length_inverseTable table).trans hlen, inverseTable_at_entry h, permute_inverseTable h v⟩,
    inverseTable_tableIP, inverseTable_tableFP, tableBijective_tableP⟩

end Sys2Proof.Proofs

/-! SUPPORT. Sitting 5 (41_key_schedule.md): the 28-bit rotation, and the halves and subkeys round by round. -/

namespace Sys2Proof.Proofs

open Sys2Proof Sys2Proof.Machine Sys2Proof.Laws

/-! ### The rotation (41_key_schedule.md R114) -/

/-- The mask of R114 is structural: it takes off what the shift left carries out of 28 bits, and the shift right carries nothing out. -/
theorem toNat_rotl28 (x : KeyHalf) (s : Nat) :
    (rotl28 x s).toNat = ((x.toNat <<< s) ||| (x.toNat >>> (28 - s))) &&& (2 ^ 28 - 1) := by
  have hlow : x.toNat >>> (28 - s) < 2 ^ 28 := (Nat.shiftRight_le _ _).trans_lt x.isLt
  rw [rotl28, BitVec.toNat_or, BitVec.toNat_shiftLeft, BitVec.toNat_ushiftRight, Nat.and_two_pow_sub_one_eq_mod,
    Nat.or_mod_two_pow, Nat.mod_eq_of_lt hlow]

theorem rotl28_eq_rotateLeft (x : KeyHalf) {s : Nat} (hs : s < 28) : rotl28 x s = x.rotateLeft s :=
  (BitVec.rotateLeft_eq_rotateLeftAux_of_lt hs).symm

/-- Settles O48: the mask is the width of the half, and a shift amount of R113 is below that width. -/
theorem rotationIsTheMaskedFormula : Obligations.RotationIsTheMaskedFormula :=
  ⟨fun x s hs => ⟨toNat_rotl28 x s, rotl28_eq_rotateLeft x (by omega)⟩, by decide, by decide⟩

/-! ### The halves and the subkeys round by round (41_key_schedule.md R115, R118) -/

/-- The rotations accumulate: round `k` rotates the halves that round `k - 1` left (R115). -/
theorem halvesAfter_succ (key : Word) {k : Nat} (hk : k < shiftSchedule.length) :
    halvesAfter key (k + 1) = rotateHalves (halvesAfter key k) (shiftSchedule.getD k 0) := by
  rw [halvesAfter, halvesAfter, List.take_succ_eq_append_getElem hk, List.foldl_append, List.getD_eq_getElem _ _ hk,
    List.foldl_cons, List.foldl_nil]

/-- The loop of R119 compresses the halves that all shifts so far have rotated, from any halves and for any shifts. -/
theorem getElem_scheduleFrom (h : KeyHalves) (shifts : List Nat) (i : Nat) (hi : i < (scheduleFrom h shifts).length) :
    (scheduleFrom h shifts)[i] = compressHalves ((shifts.take (i + 1)).foldl rotateHalves h) := by
  induction shifts generalizing h i with
  | nil => simp at hi
  | cons s rest ih =>
    cases i with
    | zero => simp
    | succ i => simpa using ih (rotateHalves h s) i (by simpa using hi)

/-- Subkey `i` is PC-2 of the halves after round `i` (R118). -/
theorem keySchedule_get (key : Word) (i : Fin 16) :
    (keySchedule key).get i = compressHalves (halvesAfter key (i.val + 1)) :=
  getElem_scheduleFrom (splitKey key) shiftSchedule i.val _

/-- Settles O49: the split of PC-1's result, one rotation a round, and the compression of the rotated halves. -/
theorem subkeysAreCompressedRotatedHalves : Obligations.SubkeysAreCompressedRotatedHalves := fun key i => by
  have hround : halvesAfter key (i.val + 1) = rotateHalves (halvesAfter key i.val) (shiftSchedule.getD i.val 0) :=
    halvesAfter_succ key i.isLt
  exact ⟨rfl, rfl, congrArg KeyHalves.c hround, congrArg KeyHalves.d hround, keySchedule_get key i⟩

end Sys2Proof.Proofs

/-! SUPPORT. Sitting 6 (44_block_cipher.md): the order of deciphering as arithmetic on round numbers, and CIPHER written out. -/

namespace Sys2Proof.Proofs

open Sys2Proof Sys2Proof.Machine Sys2Proof.Laws

/-- The subtraction of R176 never wraps: no round number is above 15. -/
theorem val_orderRev (i : Fin 16) : (orderRev i).val = 15 - i.val := Fin.sub_val_of_le i.le_last

/-- Settles O53: the round and `f` are their defining equations, the rounds go on one step at a time, and the un-swap and FP join the halves after round 15. -/
theorem cipherIsSixteenRoundsBetweenIpAndFp : Obligations.CipherIsSixteenRoundsBetweenIpAndFp := by
  refine ⟨fun l r k => ?round, fun r k => ?f, fun b ks ord => ⟨?start, ?rounds, ?finish⟩, fun i => ⟨?forward, ?reversed⟩⟩
  case round => rw [roundStep]
  case f => rw [feistel]
  case start => rw [roundsAfter_zero, splitBlock]
  case rounds => exact roundsAfter_succ b ks ord
  case finish => rw [cipher_eq_joinBlock, joinBlock]
  case forward => rw [orderFwd]
  case reversed => exact val_orderRev i

end Sys2Proof.Proofs

/-! SUPPORT. Sitting 7 (45_interface_commands.md): the outcomes of a CMD write read off the word's fields, and STATUS bit by bit. -/

namespace Sys2Proof.Proofs

open Sys2Proof Sys2Proof.Machine Sys2Proof.Laws

/-! ### The fields of a command word -/

/-- The fields of an encoded command are RSV = 0, its IDX and its OP (30_encoding.md R74). -/
theorem fieldsOf_encode (i : Instr) : fieldsOf (encode i) = ⟨0, indexField i, opcode i⟩ := by
  simp (disch := decide) only [fieldsOf, encode, BitVec.extractLsb'_append_eq_of_le,
    BitVec.extractLsb'_append_eq_of_add_le, Nat.sub_self, BitVec.extractLsb'_eq_self]

/-- A command is read from its own OP and IDX only (30_encoding.md R72, R74). -/
theorem fields_of_decodeOp_legal {op idx : BitVec 4} {i : Instr} (h : decodeOp op idx = .legal i) :
    idx = indexField i ∧ op = opcode i := by
  unfold decodeOp plainCommand at h
  split_ifs at h <;> cases h <;> simp [indexField, opcode, *]

/-- A word that decodes to a command has that command's fields. -/
theorem fieldsOf_of_decode_legal {w : Word} {i : Instr} (h : decode w = .legal i) :
    fieldsOf w = ⟨0, indexField i, opcode i⟩ := by
  unfold decode at h
  split_ifs at h with hrsv
  obtain ⟨hidx, hop⟩ := fields_of_decodeOp_legal h
  rw [← hrsv, ← hidx, ← hop]

/-- A word that decodes to a command is that command's word. -/
theorem encode_of_decode_legal {w : Word} {i : Instr} (h : decode w = .legal i) : encode i = w :=
  fieldsOf_inj.mp ((fieldsOf_encode i).trans (fieldsOf_of_decode_legal h).symm)

theorem legal_iff_decode (w : Word) : legal w = true ↔ ∃ i, decode w = .legal i :=
  (legal_iff_fieldForm w).trans (decode_legal_iff_fieldForm w).symm

theorem decode_illegal_of_not_legal {w : Word} (h : legal w = false) : ∃ why, decode w = .illegal why := by
  cases hd : decode w with
  | illegal why => exact ⟨why, rfl⟩
  | legal i => simp [(legal_iff_decode w).mpr ⟨i, hd⟩] at h

/-- PEND_IDX gets the index field of the word (45_interface_commands.md R194). -/
theorem idxOf_eq_indexField (i : Instr) : idxOf i = indexField i := by
  cases i <;> rfl

/-! ### The key requirement -/

/-- R193's key requirement is not met, by the OP and IDX of the word (45_interface_commands.md). -/
def KeyMissing (op idx : BitVec 4) (s : State) : Prop :=
  ((op = 0x2 ∨ op = 0x3) ∧ s.skv ≠ 0xFFFF) ∨ (op = 0x5 ∧ s.skv.getLsbD idx.toNat = false)

theorem keyReady_eq_false_iff (i : Instr) (s : State) :
    keyReady i s = false ↔ KeyMissing (opcode i) (indexField i) s := by
  cases i <;> simp [keyReady, KeyMissing, opcode, indexField]

/-! ### The four outcomes of a CMD write -/

theorem issue_busy (w : Word) (s : State) (h : s.busy = true) : issue w s = .next (dropWhileBusy s) := by
  simp [issue, h]

theorem issue_illegal {w : Word} {why : IllegalWord} (s : State) (h : s.busy = false) (hd : decode w = .illegal why) :
    issue w s = .next (reject errIllegalCmd s) := by
  simp [issue, h, hd]

theorem issue_legal {w : Word} {i : Instr} (s : State) (h : s.busy = false) (hd : decode w = .legal i) :
    issue w s = .next (issueLegal i s) := by
  simp [issue, h, hd, exec_idle]

theorem issueLegal_ready (i : Instr) (s : State) (h : keyReady i s = true) : issueLegal i s = accept i s := if_pos h

theorem issueLegal_notReady (i : Instr) (s : State) (h : keyReady i s = false) :
    issueLegal i s = reject errNoKey s := by
  simp [issueLegal, h]

/-- A legal word whose key requirement is not met is rejected with NO_KEY (45_interface_commands.md R193). -/
theorem issue_keyMissing {w : Word} (s : State) (hb : s.busy = false) (hl : legal w = true)
    (hk : KeyMissing (fieldsOf w).op (fieldsOf w).idx s) : issue w s = .next (reject errNoKey s) := by
  obtain ⟨i, hi⟩ := (legal_iff_decode w).mp hl
  rw [fieldsOf_of_decode_legal hi, ← keyReady_eq_false_iff] at hk
  rw [issue_legal s hb hi, issueLegal_notReady i s hk]

/-- A legal word whose key requirement is met is accepted as the command it encodes (45_interface_commands.md R194). -/
theorem issue_accepted {w : Word} (s : State) (hb : s.busy = false) (hl : legal w = true)
    (hk : ¬KeyMissing (fieldsOf w).op (fieldsOf w).idx s) :
    ∃ i, encode i = w ∧ idxOf i = (fieldsOf w).idx ∧ issue w s = .next (accept i s) := by
  obtain ⟨i, hi⟩ := (legal_iff_decode w).mp hl
  rw [fieldsOf_of_decode_legal hi, ← keyReady_eq_false_iff, Bool.not_eq_false] at hk
  refine ⟨i, encode_of_decode_legal hi, ?_, ?_⟩
  · rw [fieldsOf_of_decode_legal hi, idxOf_eq_indexField]
  · rw [issue_legal s hb hi, issueLegal_ready i s hk]

/-! ### STATUS bit by bit -/

/-- Each bit of ERR is cleared by a 1 in its own place (45_interface_commands.md R199). -/
theorem getLsbD_statusWrite_err (v : Word) (s : State) (k : Nat) (hk : k < 4) :
    (statusWrite v s).err.getLsbD k = if v.getLsbD (4 + k) = true then false else s.err.getLsbD k := by
  cases hv : v.getLsbD (4 + k) <;> simp [hk, hv]

/-- A flag that is written 1 to clear. -/
theorem and_not_eq_ite (flag v : Bool) : (flag && !v) = if v = true then false else flag := by
  cases v <;> simp

/-- Writing 0 to STATUS changes nothing (45_interface_commands.md R199). -/
theorem statusWrite_zero (s : State) : statusWrite 0 s = s := by
  have hones : ~~~((0#64).extractLsb' 4 4) = BitVec.allOnes 4 := by decide
  simp only [statusWrite, hones, BitVec.ofNat_eq_ofNat, BitVec.and_allOnes, BitVec.getLsbD_zero, Bool.not_false,
    Bool.and_true]

/-! ### The statements -/

/-- Settles O9: BUSY is looked at first, then whether the word is legal, then the key requirement of its OP and IDX. -/
theorem commandWriteHasFourOutcomes : Obligations.CommandWriteHasFourOutcomes := by
  intro s w rest hr h
  have hstep : step s = issue w (withInputs rest s) := step_write s 0x0 w rest hr h
  refine ⟨fun hb => ?busy, fun hb hl => ?illegal, fun hb hl hk => ?noKey, fun hb hl hk => ?accepted⟩
  case busy => exact hstep.trans (issue_busy w _ hb)
  case illegal =>
    obtain ⟨why, hd⟩ := decode_illegal_of_not_legal hl
    exact hstep.trans (issue_illegal _ hb hd)
  case noKey => exact hstep.trans (issue_keyMissing _ hb hl hk)
  case accepted =>
    obtain ⟨i, hw, hidx, hacc⟩ := issue_accepted (withInputs rest s) hb hl hk
    refine ⟨i, 0, latency (opOf i) s, hw, ?_⟩
    rw [hstep, hacc, accept, hidx]
    rfl

/-- Settles O22: a STATUS write is `statusWrite`, whose fields say it bit by bit. -/
theorem statusWriteIsWriteOneToClear : Obligations.StatusWriteIsWriteOneToClear := by
  intro s v rest hr h
  refine ⟨(statusWrite v s).done, (statusWrite v s).ovr, (statusWrite v s).err, step_write s 0x1 v rest hr h,
    and_not_eq_ite s.done _, and_not_eq_ite s.ovr _, getLsbD_statusWrite_err v s, ?zero⟩
  rintro rfl
  rw [statusWrite_zero]
  exact ⟨rfl, rfl, rfl⟩

end Sys2Proof.Proofs

/-! SUPPORT. Sitting 8 (70_reset_and_hazards.md): a data-register write and a completion in either order, and what reset leaves. -/

namespace Sys2Proof.Proofs

open Sys2Proof Sys2Proof.Machine Sys2Proof.Laws

/-! ### A data-register write and a completion (70_reset_and_hazards.md R237) -/

theorem opOf_pending (s : State) : opOf (pending s) = s.pendOp := by
  cases h : s.pendOp <;> simp [pending, opOf, h]

/-- A completion reads no data register, and only RDSUBKEY's writes one, which is SUBKEY_IO. -/
theorem completion_dataWrite (i : Instr) (a : Addr) (v : Word) (s : State) (h : opOf i = .rdsubkey → a ≠ 0x5) :
    finish (effectOf i (dataWrite a v s)) = dataWrite a v (finish (effectOf i s)) := by
  unfold dataWrite
  split_ifs with hkey hdata hsubkey
  · cases i <;> rfl
  · cases i <;> rfl
  · cases i with
    | rdsubkey idx => exact absurd hsubkey (h rfl)
    | nop | loadkey | encrypt | decrypt | wrsubkey idx => rfl
  · rfl

theorem withInputs_dataWrite (rest : List Input) (a : Addr) (v : Word) (s : State) :
    withInputs rest (dataWrite a v s) = dataWrite a v (withInputs rest s) := by
  unfold dataWrite
  split_ifs <;> rfl

theorem withInputs_completion (rest : List Input) (i : Instr) (s : State) :
    withInputs rest (finish (effectOf i s)) = finish (effectOf i (withInputs rest s)) := by
  cases i <;> rfl

theorem withInputs_withInputs (rest rest' : List Input) (s : State) :
    withInputs rest (withInputs rest' s) = withInputs rest s := rfl

theorem step_dataWrite (s : State) (a : Addr) (v : Word) (rest : List Input) (hr : s.rst = false)
    (h : s.inputs = .host (.write a v) :: rest) (h0 : a ≠ 0x0) (h1 : a ≠ 0x1) :
    step s = .next (dataWrite a v (withInputs rest s)) :=
  (step_write s a v rest hr h).trans (regWrite_data a v _ h0 h1)

theorem step_completion (s : State) (rest : List Input) (hr : s.rst = false) (h : s.inputs = .complete :: rest)
    (hb : s.busy = true) : step s = .next (finish (effectOf (pending s) (withInputs rest s))) :=
  (step_complete s rest hr h).trans (complete_busy _ hb)

/-- Settles O18: the completion reads the latch and the subkey file only, so it commutes with the write. -/
theorem operandsAreCapturedAtIssue : Obligations.OperandsAreCapturedAtIssue := by
  intro s a v rest hr hb ha hrd
  have h0 : a ≠ 0x0 := by rintro rfl; simp at ha
  have h1 : a ≠ 0x1 := by rintro rfl; simp at ha
  have hrd' : opOf (pending s) = .rdsubkey → a ≠ 0x5 := by rwa [opOf_pending]
  refine ⟨dataWrite a v (withInputs (.complete :: rest) s),
    finish (effectOf (pending s) (withInputs (.host (.write a v) :: rest) s)),
    dataWrite a v (finish (effectOf (pending s) (withInputs rest s))),
    step_dataWrite _ a v _ hr rfl h0 h1, ?writeFirst, step_completion _ _ hr rfl hb, ?completionFirst⟩
  case writeFirst =>
    have hpend := pending_of_latch s (dataWrite a v (withInputs (.complete :: rest) s)) (by simp) (by simp)
    rw [step_completion _ rest (by simpa using hr) (by simp) (by simpa using hb), hpend, withInputs_dataWrite,
      withInputs_withInputs, completion_dataWrite _ _ _ _ hrd']
  case completionFirst =>
    obtain ⟨-, -, -, -, -, -, -, hrst, -, hinputs, -⟩ :=
      effectOf_frame (pending s) (withInputs (.host (.write a v) :: rest) s)
    rw [step_dataWrite (finish _) a v rest (hrst.trans hr) hinputs h0 h1, withInputs_completion, withInputs_withInputs]

/-! ### Reset (70_reset_and_hazards.md R230) -/

/-- `Reset()` leaves the same registers at either level of the pin. -/
theorem step_reset (s : State) (rest : List Input) (h : s.inputs = .reset :: rest) :
    step s = .next (resetRegs (withInputs rest s)) := by
  rw [step_input s _ rest h]
  cases hr : s.rst with
  | false => exact takeInput_live _ _ hr
  | true => exact takeInput_held _ _ hr

/-- An idle engine rejects a command whose subkeys are not valid (45_interface_commands.md R193). -/
theorem exec_notReady (i : Instr) (s : State) (hb : s.busy = false) (hk : keyReady i s = false) :
    exec i s = .next (reject errNoKey s) := by
  rw [exec_idle i s hb, issueLegal_notReady i s hk]

/-- After reset no subkey is valid, so every command that needs one is answered with NO_KEY. -/
theorem keyReady_resetRegs (i : Instr) (s : State) :
    keyReady i (resetRegs s) = false ↔ opOf i = .encrypt ∨ opOf i = .decrypt ∨ opOf i = .rdsubkey := by
  cases i <;> simp [keyReady, opOf]

theorem statusWord_resetRegs (s : State) : statusWord (resetRegs s) = 0 := by
  simp [statusWord, ksv]

/-- Settles O30: the registers are `resetRegs`', and SKV = 0 leaves the three commands without their subkeys. -/
theorem resetReachesTheResetState : Obligations.ResetReachesTheResetState := by
  intro s rest h
  have hnoKey (i : Instr) (hi : opOf i = .encrypt ∨ opOf i = .decrypt ∨ opOf i = .rdsubkey) :=
    exec_notReady i (resetRegs (withInputs rest s)) rfl ((keyReady_resetRegs i _).mpr hi)
  exact ⟨resetRegs (withInputs rest s), step_reset s rest h,
    rfl, rfl, rfl, rfl, rfl, rfl, rfl, rfl, rfl, statusWord_resetRegs _, rfl, rfl,
    hnoKey .encrypt (.inl rfl), hnoKey .decrypt (.inr (.inl rfl)), fun idx => hnoKey (.rdsubkey idx) (.inr (.inr rfl))⟩

end Sys2Proof.Proofs

/-! SUPPORT. Sitting 9, the command words and what a step runs: decoding undoes encoding, and a step is the meaning of the command its word or its latch names. -/

namespace Sys2Proof.Proofs

open Sys2Proof Sys2Proof.Machine Sys2Proof.Laws

/-! ### Decoding undoes encoding (30_encoding.md R70 to R75) -/

theorem decodeOp_opcode_indexField (i : Instr) : decodeOp (opcode i) (indexField i) = .legal i := by
  cases i <;> simp [decodeOp, plainCommand, opcode, indexField]

@[simp] theorem decode_encode (i : Instr) : decode (encode i) = .legal i := by
  rw [decode, fieldsOf_encode, if_pos rfl, decodeOp_opcode_indexField]

/-- Settles O5: each direction is one of the two round trips. -/
theorem decodeIsTheInverseOfEncode : Obligations.DecodeIsTheInverseOfEncode := by
  refine fun w i => ⟨encode_of_decode_legal, ?_⟩
  rintro rfl
  exact decode_encode i

/-- Settles O7: the word is the three fields put together, for every index where there is one. -/
theorem commandWordsAreThoseOfTheTable : Obligations.CommandWordsAreThoseOfTheTable :=
  ⟨by decide, by decide, by decide, by decide, by decide, by decide⟩

/-- Settles O8: the six legal words are encoded commands, and the other three fail one check each. -/
theorem wordsOfTheSpecDecodeAsItSays : Obligations.WordsOfTheSpecDecodeAsItSays :=
  ⟨decode_encode .nop, decode_encode .loadkey, decode_encode .encrypt, decode_encode .decrypt,
    decode_encode (.wrsubkey 15), decode_encode (.rdsubkey 3), by decide, by decide, by decide⟩

/-! ### What a step runs (45_interface_commands.md R190, R196) -/

/-- A legal CMD write to an idle engine runs its command. -/
theorem issue_eq_exec {w : Word} {i : Instr} (s : State) (hb : s.busy = false) (hd : decode w = .legal i) :
    issue w s = exec i s := by
  rw [issue_legal s hb hd, exec_idle i s hb]

/-- Settles O1: the access reaches `issue` at the idle engine, alone or as all of its clock cycle. -/
theorem commandWriteRunsTheDecodedCommand : Obligations.CommandWriteRunsTheDecodedCommand := by
  intro s w i rest hr hb hd h
  have hissue : hostAccess (.write 0x0 w) (withInputs rest s) = exec i (withInputs rest s) := issue_eq_exec _ hb hd
  obtain h | h := h
  · exact (step_host s _ rest hr h).trans hissue
  · exact (step_clock s _ rest hr h).trans ((clockCycle_access_idle _ (withInputs rest s) hb).trans hissue)

/-- A turn of the engine, as an input or because no input is waiting (45_interface_commands.md R196, R202). -/
theorem step_engineTurn (s : State) (rest : List Input) (hr : s.rst = false)
    (h : s.inputs = .complete :: rest ∨ (s.inputs = [] ∧ rest = [])) : step s = complete (withInputs rest s) := by
  obtain h | ⟨h, rfl⟩ := h
  · exact step_complete s rest hr h
  · rw [step_noInput s h, takeNoInput, hr, ← h, withInputs_self]
    exact if_neg Bool.false_ne_true

/-- Settles O2: the turn is `complete`, which asks for a command in flight. -/
theorem engineTurnRunsThePendingCommand : Obligations.EngineTurnRunsThePendingCommand := by
  intro s rest hr h
  rw [step_engineTurn s rest hr h]
  exact ⟨fun hb => if_pos hb, fun hb => complete_idle _ hb⟩

/-- The word that `withFetchWord` places is the command's. -/
theorem withFetchWord_encode (s : State) (i : Instr) :
    s.withFetchWord 64 (encode i).toNat = withCommandWord (encode i) s := by
  rw [State.withFetchWord, Nat.mod_eq_of_lt (encode i).isLt, BitVec.ofNat_toNat, BitVec.setWidth_eq]

/-- Settles O3: the placed word is the next CMD write, with the pin low. -/
theorem placedWordIsTheNextCommand : Obligations.PlacedWordIsTheNextCommand := by
  intro s i
  have hstep : step (withCommandWord (encode i) s) = issue (encode i) { s with rst := false } :=
    step_write _ 0x0 (encode i) s.inputs rfl rfl
  rw [withFetchWord_encode, hstep]
  exact ⟨fun hb => issue_eq_exec _ hb (decode_encode i), fun hb => issue_busy _ _ hb⟩

/-! ### Issue and completion of each command (45_interface_commands.md R193 to R197) -/

/-- An idle engine accepts a command whose key requirement is met. -/
theorem exec_ready (i : Instr) (s : State) (hb : s.busy = false) (hk : keyReady i s = true) :
    exec i s = .next (accept i s) := by
  rw [exec_idle i s hb, issueLegal_ready i s hk]

/-- Settles O10: an accepted command is `accept`, with RC = 0 and the window at its latency. -/
theorem acceptedCommandsCaptureTheirOperand : Obligations.AcceptedCommandsCaptureTheirOperand := fun s idx hb =>
  have hfull (h : s.skv = 0xFFFF) : (s.skv == 0xFFFF) = true := beq_iff_eq.mpr h
  ⟨⟨0, _, exec_ready .nop s hb rfl⟩,
    ⟨0, _, exec_ready .loadkey s hb rfl⟩,
    fun h => ⟨0, _, exec_ready .encrypt s hb (hfull h)⟩,
    fun h => ⟨0, _, exec_ready .decrypt s hb (hfull h)⟩,
    ⟨0, _, exec_ready (.wrsubkey idx) s hb rfl⟩,
    fun h => ⟨0, _, exec_ready (.rdsubkey idx) s hb h⟩⟩

/-- Settles O11: the key requirement of the three commands is not met, so each is rejected. -/
theorem missingSubkeysAreRejectedWithNoKey : Obligations.MissingSubkeysAreRejectedWithNoKey := fun s idx hb =>
  have hmissing (h : s.skv ≠ 0xFFFF) : (s.skv == 0xFFFF) = false := beq_eq_false_iff_ne.mpr h
  ⟨fun h => exec_notReady .encrypt s hb (hmissing h),
    fun h => exec_notReady .decrypt s hb (hmissing h),
    fun h => exec_notReady (.rdsubkey idx) s hb h⟩

/-- Settles O12: NOP's effect is none. -/
theorem nopCompletes : Obligations.NopCompletes := fun s hb _ => exec_inFlight .nop s hb

/-- Settles O13: LOADKEY's effect is the key schedule of OPND. -/
theorem loadkeyCompletes : Obligations.LoadkeyCompletes := fun s hb _ => exec_inFlight .loadkey s hb

/-- Settles O14: the two cipher commands differ in the order of the subkeys. -/
theorem cipherCommandsComplete : Obligations.CipherCommandsComplete := fun s hb =>
  ⟨fun _ => exec_inFlight .encrypt s hb, fun _ => exec_inFlight .decrypt s hb⟩

/-- One entry of the subkey file after one is written. -/
theorem get_writeSubkey (idx : SubkeyIdx) (k : Subkey) (s : State) (j : Fin 16) :
    (writeSubkey idx k s).sk.get j = if j.val = idx.toNat then k else s.sk.get j := by
  simp [Vector.get_eq_getElem, Vector.getElem_set, eq_comm]

/-- One valid bit after a subkey is written. -/
theorem getLsbD_writeSubkey_skv (idx : SubkeyIdx) (k : Subkey) (s : State) {j : Nat} (hj : j < 16) :
    (writeSubkey idx k s).skv.getLsbD j = (decide (j = idx.toNat) || s.skv.getLsbD j) := by
  have hbit : (BitVec.ofNat 16 (1 <<< idx.toNat)).getLsbD j = decide (j = idx.toNat) := by
    rw [BitVec.getLsbD_ofNat, Nat.one_shiftLeft, Nat.testBit_two_pow]
    simp [hj, eq_comm]
  rw [writeSubkey, BitVec.getLsbD_or, Bool.or_comm]
  exact congrArg (· || s.skv.getLsbD j) hbit

/-- Settles O15: WRSUBKEY's effect is one written subkey. -/
theorem wrsubkeyCompletes : Obligations.WrsubkeyCompletes := fun s idx hb _ =>
  ⟨_, _, exec_inFlight (.wrsubkey idx) s hb, get_writeSubkey idx _ s,
    fun _ => getLsbD_writeSubkey_skv idx (s.opnd.extractLsb' 0 48) s⟩

/-- Settles O16: RDSUBKEY's effect is one subkey in SUBKEY_IO. -/
theorem rdsubkeyCompletes : Obligations.RdsubkeyCompletes := fun s idx hb _ => exec_inFlight (.rdsubkey idx) s hb

end Sys2Proof.Proofs

/-! SUPPORT. Sitting 9, whole-machine rules: what the two turns of a step do to the flags and the subkey file, and the invariants of STATUS and of the reset pin. -/

namespace Sys2Proof.Proofs

open Sys2Proof Sys2Proof.Machine Sys2Proof.Laws

/-! ### The two turns -/

/-- What the host's access does to BUSY, DONE and ERR: nothing, or a STATUS write, or the rejection or acceptance of a command by an idle engine (45_interface_commands.md R190, R199). -/
theorem portTurn_flags (a : Option Access) (s u : State) (h : PortTurn a s u) :
    (u.busy = s.busy ∧ u.done = s.done ∧ u.err = s.err) ∨
    (∃ v, a = some (.write 0x1 v) ∧ u = statusWrite v s) ∨
    (s.busy = false ∧ ∃ w, a = some (.write 0x0 w) ∧
      ((u.busy = false ∧ u.done = true ∧ (u.err = 0x1 ∨ u.err = 0x2)) ∨
        (legal w = true ∧ u.busy = true ∧ u.done = false))) := by
  cases a with
  | none => obtain rfl := (portTurn_none s u).mp h; exact .inl ⟨rfl, rfl, rfl⟩
  | some x =>
    obtain ⟨addr, rfl, rfl⟩ | ⟨w, rfl, hw⟩ | ⟨v, rfl, rfl⟩ | ⟨addr, v, rfl, -, -, rfl⟩ := hostAccess_cases x s u h
    · exact .inl ⟨rfl, rfl, rfl⟩
    · obtain ⟨-, rfl⟩ | ⟨hb, -, rfl⟩ | ⟨hb, i, -, -, rfl⟩ | ⟨hb, i, hd, -, rfl⟩ := issue_cases w s u hw
      · exact .inl ⟨rfl, rfl, rfl⟩
      · exact .inr (.inr ⟨hb, w, rfl, .inl ⟨hb, rfl, .inl rfl⟩⟩)
      · exact .inr (.inr ⟨hb, w, rfl, .inl ⟨hb, rfl, .inr rfl⟩⟩)
      · exact .inr (.inr ⟨hb, w, rfl, .inr ⟨(legal_iff_decode w).mpr ⟨i, hd⟩, rfl, rfl⟩⟩)
    · exact .inr (.inl ⟨v, rfl, rfl⟩)
    · exact .inl (by simp)

/-- The engine's turn leaves ERR, the latch, the pin and the inputs, and either goes on or ends the command (45_interface_commands.md R196). -/
theorem engineTurn_frame (u t : State) (h : EngineTurn u t) (hb : u.busy = true) :
    t.err = u.err ∧ t.pendOp = u.pendOp ∧ t.pendIdx = u.pendIdx ∧ t.opnd = u.opnd ∧ t.rst = u.rst ∧
    t.lat = u.lat ∧ t.inputs = u.inputs ∧
    ((t.busy = true ∧ t.done = u.done ∧ t.skv = u.skv) ∨ (t.busy = false ∧ t.done = true)) := by
  obtain rfl | rfl := h
  · obtain ⟨herr, -, hop, hidx, hopnd, -, -, hlat, hrst, -, hinputs, ⟨hbusy, hdone, hskv, -, -⟩ | ⟨-, hbusy, hdone⟩⟩ :=
      engineTick_frame u
    · exact ⟨herr, hop, hidx, hopnd, hrst, hlat, hinputs, .inl ⟨hbusy.trans hb, hdone, hskv⟩⟩
    · exact ⟨herr, hop, hidx, hopnd, hrst, hlat, hinputs, .inr ⟨hbusy, hdone⟩⟩
  · have hframe := effectOf_frame (pending u) u
    simp [hframe]

/-! ### BUSY, DONE and ERR (10_state.md R28, R29, R32) -/

/-- What a step outside reset does to BUSY, DONE and ERR: they stay, or a STATUS write clears bits, or an idle engine rejects or accepts a command, or the command in flight ends, with ERR as the access of that step left it. -/
theorem step_flags (s t : State) (h : step s = .next t) (hr : ¬ResetNow s) :
    (t.busy = s.busy ∧ t.done = s.done ∧ t.err = s.err) ∨
    (∃ v, nextAccess s = some (.write 0x1 v) ∧
      t.busy = s.busy ∧ t.done = (s.done && !v.getLsbD 1) ∧ t.err = s.err &&& ~~~(v.extractLsb' 4 4)) ∨
    (∃ w, nextAccess s = some (.write 0x0 w) ∧ s.busy = false ∧
      ((t.busy = false ∧ t.done = true ∧ (t.err = 0x1 ∨ t.err = 0x2)) ∨
        (legal w = true ∧ t.busy = true ∧ t.done = false))) ∨
    (s.busy = true ∧ t.busy = false ∧ t.done = true ∧
      (t.err = s.err ∨ ∃ v, nextAccess s = some (.write 0x1 v) ∧ t.err = s.err &&& ~~~(v.extractLsb' 4 4))) := by
  obtain ⟨u, hu, rfl | ⟨hb, he⟩⟩ := step_turns s t h hr
  · obtain hsame | ⟨v, hv, rfl⟩ | ⟨hb, w, hw, hout⟩ := portTurn_flags _ _ _ hu
    · exact .inl hsame
    · exact .inr (.inl ⟨v, hv, rfl, rfl, rfl⟩)
    · exact .inr (.inr (.inl ⟨w, hw, hb, hout⟩))
  · obtain ⟨-, -, -, hbusy⟩ := portTurn_frame _ _ u hu
    obtain ⟨hub, -⟩ := hbusy hb
    obtain ⟨herr, -, -, -, -, -, -, hend⟩ := engineTurn_frame u t he hub
    obtain ⟨-, hdone, herr'⟩ | ⟨v, hv, rfl⟩ | ⟨hidle, -⟩ := portTurn_flags _ _ u hu
    · obtain ⟨htb, htd, -⟩ | ⟨htb, htd⟩ := hend
      · exact .inl ⟨htb.trans hb.symm, htd.trans hdone, herr.trans herr'⟩
      · exact .inr (.inr (.inr ⟨hb, htb, htd, .inl (herr.trans herr')⟩))
    · obtain ⟨htb, htd, -⟩ | ⟨htb, htd⟩ := hend
      · exact .inr (.inl ⟨v, hv, htb.trans hb.symm, htd, herr⟩)
      · exact .inr (.inr (.inr ⟨hb, htb, htd, .inr ⟨v, hv, herr⟩⟩))
    · exact absurd (hidle.symm.trans hb) Bool.false_ne_true

/-- Settles O28: each of the things a step can do to the flags, against the clauses. -/
theorem busyAndDoneFollowIssueAndCompletion : Obligations.BusyAndDoneFollowIssueAndCompletion := by
  intro s t h
  by_cases hr : ResetNow s
  · rw [step_resetNow s t h hr]
    exact ⟨fun _ => ⟨rfl, rfl⟩, absurd hr, absurd hr, absurd hr, absurd hr⟩
  · simp only [hr, not_false_eq_true, true_implies, false_implies, true_and]
    obtain ⟨hb, hd, -⟩ | ⟨v, hv, hb, hd, -⟩ | ⟨w, hw, hs, ⟨hb, hd, he⟩ | ⟨hl, hb, hd⟩⟩ | ⟨hs, hb, hd, -⟩ :=
      step_flags s t h hr
    case inl => simp +contextual [hb, hd]
    case inr.inl => simp +contextual [hb, hd, hv]
    case inr.inr.inl.inl => exact ⟨by simp [hb], by simp [hs], fun _ _ _ => ⟨hs, he, w, hw⟩, by simp [hd]⟩
    case inr.inr.inl.inr => simp [hb, hd, hs, hl, hw]
    case inr.inr.inr => simp [hb, hd, hs]

/-- Settles O29: a completion leaves ERR as the access of its step did, and of the accesses only the two named write it. -/
theorem errIsWrittenByIssueAndStatusWriteOnly : Obligations.ErrIsWrittenByIssueAndStatusWriteOnly := by
  intro s t h
  refine ⟨fun hr => congrArg State.err (step_resetNow s t h hr), fun hr hne => ?_⟩
  obtain ⟨-, -, he⟩ | ⟨v, hv, -, -, he⟩ | ⟨w, hw, hs, -⟩ | ⟨-, -, -, he | he⟩ := step_flags s t h hr
  · exact absurd he hne
  · exact .inr ⟨v, hv, he⟩
  · exact .inl ⟨hs, w, hw⟩
  · exact absurd he hne
  · exact .inr he

/-! ### The subkey file (10_state.md R25, R26) -/

/-- What the engine's turn may do to SK and SKV: nothing, or LOADKEY goes on or ends, or WRSUBKEY ends (41_key_schedule.md R121, R122, R125). -/
def SubkeysTurn (u t : State) : Prop :=
  (t.sk = u.sk ∧ t.skv = u.skv) ∨
  (pending u = .loadkey ∧ (t.skv = u.skv ∨ (t.busy = false ∧ t.skv = 0xFFFF))) ∨
  (∃ idx k, pending u = .wrsubkey idx ∧ t.busy = false ∧ t.sk = (writeSubkey idx k u).sk ∧
    t.skv = (writeSubkey idx k u).skv)

theorem completion_subkeysTurn (u : State) : SubkeysTurn u (finish (effectOf (pending u) u)) := by
  cases hp : pending u with
  | loadkey => exact .inr (.inl ⟨hp, .inr ⟨rfl, rfl⟩⟩)
  | wrsubkey idx => exact .inr (.inr ⟨idx, _, hp, rfl, rfl, rfl⟩)
  | nop | encrypt | decrypt | rdsubkey => exact .inl ⟨rfl, rfl⟩

theorem pending_eq_loadkey (s : State) (h : s.pendOp = .loadkey) : pending s = .loadkey := by
  rw [pending, h]

theorem engineTick_subkeysTurn (u : State) (hb : u.busy = true) : SubkeysTurn u (engineTick u) := by
  by_cases hw : u.window ≤ 1
  · rw [engineTick_last u hb hw]
    obtain e | ⟨ho, -, e⟩ | ⟨-, -, e⟩ := endCycle_cases u <;> rw [e]
    · exact completion_subkeysTurn u
    · exact .inr (.inl ⟨pending_eq_loadkey u ho, .inr ⟨rfl, rfl⟩⟩)
    · exact .inl ⟨rfl, rfl⟩
  · rw [engineTick_work u hb (by omega)]
    obtain e | ⟨-, -, e⟩ | ⟨i, ho, -, -, e⟩ | ⟨-, -, e⟩ | ⟨i, -, -, e⟩ | ⟨i, -, -, e⟩ :=
      workCycle_cases (countCycle u) <;> rw [e]
    case inr.inr.inl => exact .inr (.inl ⟨pending_eq_loadkey u ho, .inl rfl⟩)
    all_goals exact .inl ⟨rfl, rfl⟩

theorem engineTurn_subkeysTurn (u t : State) (h : EngineTurn u t) (hb : u.busy = true) : SubkeysTurn u t := by
  obtain rfl | rfl := h
  · exact engineTick_subkeysTurn u hb
  · exact completion_subkeysTurn u

/-- SKV = 0xFFFF has every valid bit set. -/
theorem getLsbD_allValid {j : Nat} (hj : j < 16) : (0xFFFF : BitVec 16).getLsbD j = true :=
  (BitVec.getLsbD_allOnes (v := 16)).trans (decide_eq_true hj)

/-- Settles O25: no access touches SK or SKV, and of the engine's turns only LOADKEY's and the end of WRSUBKEY do. -/
theorem subkeysAndValidBitsAreWrittenByLoadsOnly : Obligations.SubkeysAndValidBitsAreWrittenByLoadsOnly := by
  intro s t h hr i
  obtain ⟨u, hu, ht⟩ := step_turns s t h hr
  obtain ⟨-, hsk, hskv, hlatch⟩ := portTurn_frame _ _ u hu
  rw [withInputs_sk] at hsk
  rw [withInputs_skv] at hskv
  obtain rfl | ⟨hb, he⟩ := ht
  · simp +contextual [hsk, hskv]
  · obtain ⟨hub, hop, hidx, -⟩ := hlatch hb
    rw [← hsk, ← hskv, ← pending_of_latch s u hop hidx]
    obtain ⟨hsk', hskv'⟩ | ⟨hp, hskv' | ⟨htb, hskv'⟩⟩ | ⟨idx, k, hp, htb, hsk', hskv'⟩ 
      := engineTurn_subkeysTurn u t he hub
    · simp +contextual [hsk', hskv']
    · simp +contextual [hskv', hp, hb]
    · rw [hskv', getLsbD_allValid i.isLt]
      simp [hp, hb, htb]
    · rw [hsk', hskv', get_writeSubkey, getLsbD_writeSubkey_skv _ _ _ i.isLt, hp]
      by_cases hi : i.val = idx.toNat
      · simp [hi, hb, htb]
      · simp +contextual [hi]

/-! ### Invariants -/

/-- What holds after reset, and what the host's accesses and the engine's turns keep, every step keeps. -/
theorem step_keeps {P : State → Prop} (s t : State) (h : step s = .next t) (hs : P s)
    (hinputs : ∀ rest u, P u → P (withInputs rest u))
    (haccess : ∀ a u v, P u → hostAccess a u = .next v → P v)
    (hengine : ∀ u v, u.busy = true → P u → EngineTurn u v → P v)
    (hreset : ∀ u, P (resetRegs u)) : P t := by
  by_cases hr : ResetNow s
  · rw [step_resetNow s t h hr]
    exact hreset t
  · obtain ⟨u, hu, ht⟩ := step_turns s t h hr
    have hPu : P u := by
      cases ha : nextAccess s with
      | none => rw [ha, portTurn_none] at hu; exact hu ▸ hinputs _ s hs
      | some x => rw [ha, portTurn_some] at hu; exact haccess x _ u (hinputs _ s hs) hu
    obtain rfl | ⟨hb, he⟩ := ht
    · exact hPu
    · obtain ⟨-, -, -, hbusy⟩ := portTurn_frame _ _ u hu
      obtain ⟨hub, -⟩ := hbusy hb
      exact hengine u t hub hPu he

/-! #### STATUS (60_exceptions.md R211, R213) -/

/-- Each of the three codes that are produced has one bit at most, so clearing bits leaves it or makes it 0. -/
theorem errCode_clear (e x : BitVec 4) (h : e = 0x0 ∨ e = 0x1 ∨ e = 0x2) : e &&& ~~~x = e ∨ e &&& ~~~x = 0x0 := by
  revert e x
  decide

theorem statusInv_of_idle (s : State) (hb : s.busy = false) (hcode : s.err = 0x0 ∨ s.err = 0x1 ∨ s.err = 0x2)
    (hkey : s.err = 0x2 → s.skv ≠ 0xFFFF) : StatusInv s :=
  ⟨hcode, hkey, by simp [hb], by simp [hb]⟩

theorem statusInv_of_errOk (s : State) (herr : s.err = 0x0) (hdone : s.busy = true → s.done = false)
    (hready : s.busy = true → keyReady (pending s) s = true) : StatusInv s :=
  ⟨.inl herr, by simp [herr], fun hb => ⟨herr, hdone hb⟩, hready⟩

theorem statusInv_resetRegs (s : State) : StatusInv (resetRegs s) :=
  statusInv_of_errOk _ rfl (by simp) (by simp)

/-- A command that lacks a subkey finds SKV other than 0xFFFF (45_interface_commands.md R193). -/
theorem skv_ne_of_not_keyReady (i : Instr) (s : State) (h : keyReady i s = false) : s.skv ≠ 0xFFFF := by
  intro hfull
  cases i with
  | rdsubkey idx => rw [keyReady, hfull, getLsbD_allValid idx.isLt] at h; exact absurd h.symm Bool.false_ne_true
  | nop | loadkey | encrypt | decrypt | wrsubkey => simp [keyReady, hfull] at h

theorem statusInv_statusWrite (v : Word) (s : State) (h : StatusInv s) : StatusInv (statusWrite v s) := by
  obtain ⟨hcode, hkey, hflight, hready⟩ := h
  have herr0 (hb : s.busy = true) : s.err = 0x0 := (hflight hb).1
  have hdone (hb : s.busy = true) : (statusWrite v s).done = false := by simp [hflight hb]
  obtain herr | herr : (statusWrite v s).err = s.err ∨ (statusWrite v s).err = 0x0 := errCode_clear _ _ hcode
  · exact ⟨herr ▸ hcode, herr ▸ hkey, fun hb => ⟨herr.trans (herr0 hb), hdone hb⟩, hready⟩
  · exact statusInv_of_errOk _ herr hdone hready

theorem statusInv_hostAccess (a : Access) (s u : State) (h : StatusInv s) (ha : hostAccess a s = .next u) :
    StatusInv u := by
  obtain ⟨addr, -, rfl⟩ | ⟨w, -, hw⟩ | ⟨v, -, rfl⟩ | ⟨addr, v, -, -, -, rfl⟩ := hostAccess_cases a s u ha
  · exact h
  · obtain ⟨-, rfl⟩ | ⟨hb, -, rfl⟩ | ⟨hb, i, -, hk, rfl⟩ | ⟨hb, i, -, hk, rfl⟩ := issue_cases w s u hw
    · exact h
    · exact statusInv_of_idle _ hb (.inr (.inl rfl)) (by simp [errIllegalCmd])
    · exact statusInv_of_idle _ hb (.inr (.inr rfl)) fun _ => skv_ne_of_not_keyReady i s hk
    · exact statusInv_of_errOk _ rfl (by simp) fun _ => by rwa [pending_accept, keyReady_of_skv i s (accept i s) rfl]
  · exact statusInv_statusWrite v s h
  · unfold StatusInv
    rwa [pending_of_latch s _ (dataWrite_pendOp ..) (dataWrite_pendIdx ..), keyReady_of_skv _ s _ (dataWrite_skv ..),
      dataWrite_err, dataWrite_skv, dataWrite_busy, dataWrite_done]

theorem statusInv_engineTurn (s t : State) (hb : s.busy = true) (h : StatusInv s) (he : EngineTurn s t) :
    StatusInv t := by
  obtain ⟨-, -, hflight, hready⟩ := h
  obtain ⟨herr, hop, hidx, -, -, -, -, hend⟩ := engineTurn_frame s t he hb
  obtain ⟨herr0, hdone⟩ := hflight hb
  obtain ⟨herr0, hdone⟩ := hflight hb
  refine statusInv_of_errOk t (herr.trans herr0) (fun htb => ?_) (fun htb => ?_) <;>
    obtain ⟨-, hd, hskv⟩ | ⟨hidle, -⟩ := hend
  · exact hd.trans hdone
  · simp [hidle] at htb
  · rw [pending_of_latch s t hop hidx, keyReady_of_skv _ s t hskv]
    exact hready hb
  · simp [hidle] at htb

/-- Settles O34: a command in flight has ERR = 0, so its end, which may validate subkeys, meets no NO_KEY. -/
theorem everyStepKeepsTheStatusInvariant : Obligations.EveryStepKeepsTheStatusInvariant := fun s t hs h =>
  step_keeps s t h hs (fun _ _ hu => hu) statusInv_hostAccess statusInv_engineTurn statusInv_resetRegs

/-! #### The reset pin (70_reset_and_hazards.md R232) -/

/-- No access touches the latency parameters, the pin or what happens next. -/
theorem hostAccess_ownFields (a : Access) (s u : State) (h : hostAccess a s = .next u) :
    u.lat = s.lat ∧ u.rst = s.rst ∧ u.inputs = s.inputs := by
  obtain ⟨addr, -, rfl⟩ | ⟨w, -, hw⟩ | ⟨v, -, rfl⟩ | ⟨addr, v, -, -, -, rfl⟩ := hostAccess_cases a s u h
  · exact ⟨rfl, rfl, rfl⟩
  · obtain ⟨-, rfl⟩ | ⟨-, -, rfl⟩ | ⟨-, i, -, -, rfl⟩ | ⟨-, i, -, -, rfl⟩ := issue_cases w s u hw <;>
      exact ⟨rfl, rfl, rfl⟩
  · exact ⟨rfl, rfl, rfl⟩
  · simp

theorem portTurn_ownFields (a : Option Access) (s u : State) (h : PortTurn a s u) :
    u.lat = s.lat ∧ u.rst = s.rst ∧ u.inputs = s.inputs := by
  cases a with
  | none => obtain rfl := (portTurn_none s u).mp h; exact ⟨rfl, rfl, rfl⟩
  | some x => exact hostAccess_ownFields x s u h

/-- The pin is low after a step outside reset. -/
theorem step_rst_of_not_resetNow (s t : State) (h : step s = .next t) (hr : ¬ResetNow s) : t.rst = false := by
  have hlow : s.rst = false := by simpa using fun hp => hr (.inl hp)
  obtain ⟨u, hu, ht⟩ := step_turns s t h hr
  obtain ⟨-, hrst, -⟩ := portTurn_ownFields _ _ u hu
  obtain rfl | ⟨hb, he⟩ := ht
  · exact hrst.trans hlow
  · obtain ⟨-, -, -, hbusy⟩ := portTurn_frame _ _ u hu
    obtain ⟨hub, -⟩ := hbusy hb
    obtain ⟨-, -, -, -, hrst', -⟩ := engineTurn_frame u t he hub
    exact (hrst'.trans hrst).trans hlow

/-- Settles O35: a step in reset leaves the reset values, and after any other the pin is low. -/
theorem everyStepKeepsThePinInvariant : Obligations.EveryStepKeepsThePinInvariant := by
  intro s t _ h
  by_cases hr : ResetNow s
  · exact fun _ => step_resetNow s t h hr
  · simp [PinInv, step_rst_of_not_resetNow s t h hr]

/-- Settles O33: the reset values, and no command in flight. -/
theorem resetStateIsSafe : Obligations.ResetStateIsSafe :=
  ⟨statusInv_resetRegs State.reset, fun _ => rfl, fun hb => absurd hb Bool.false_ne_true,
    fun hb => absurd hb Bool.false_ne_true, fun hb => absurd hb Bool.false_ne_true⟩

/-! ### No step stops (45_interface_commands.md R201) -/

/-- An outcome that goes on, with the given latency parameters. -/
def GoesOn (o : Result) (l : Latencies) : Prop := ∃ t, o = .next t ∧ t.lat = l

theorem issue_goesOn (w : Word) (s : State) : GoesOn (issue w s) s.lat := by
  cases hb : s.busy with
  | true => exact ⟨_, issue_busy w s hb, rfl⟩
  | false =>
    cases hd : decode w with
    | illegal why => exact ⟨_, issue_illegal s hb hd, rfl⟩
    | legal i =>
      obtain ⟨-, e⟩ | ⟨-, e⟩ := issueLegal_cases i s <;>
        exact ⟨_, issue_legal s hb hd, by rw [e]; rfl⟩

theorem hostAccess_goesOn (a : Access) (s : State) : GoesOn (hostAccess a s) s.lat := by
  cases a with
  | read addr => exact ⟨_, rfl, rfl⟩
  | write addr v =>
    by_cases h0 : addr = 0x0
    · subst h0; exact issue_goesOn v s
    · by_cases h1 : addr = 0x1
      · subst h1; exact ⟨_, regWrite_status v s, rfl⟩
      · exact ⟨_, regWrite_data addr v s h0 h1, dataWrite_lat addr v s⟩

theorem complete_goesOn (s : State) : GoesOn (complete s) s.lat := by
  cases hb : s.busy with
  | true =>
    obtain ⟨-, -, -, -, -, -, -, -, -, -, hlat, -⟩ := effectOf_frame (pending s) s
    exact ⟨_, complete_busy s hb, hlat⟩
  | false => exact ⟨_, complete_idle s hb, rfl⟩

theorem engineTick_lat (s : State) : (engineTick s).lat = s.lat := by
  obtain ⟨-, -, -, -, -, -, -, hlat, -⟩ := engineTick_frame s
  exact hlat

theorem clockCycle_goesOn (a : Option Access) (s : State) : GoesOn (clockCycle a s) s.lat := by
  cases a with
  | none =>
    cases hb : s.busy with
    | true => exact ⟨_, clockCycle_none_busy s hb, engineTick_lat s⟩
    | false => exact ⟨_, clockCycle_none_idle s hb, rfl⟩
  | some x =>
    obtain ⟨u, hu, hlat⟩ := hostAccess_goesOn x s
    cases hb : s.busy with
    | true => exact ⟨_, clockCycle_access_busy x s u hb hu, (engineTick_lat u).trans hlat⟩
    | false => exact ⟨_, (clockCycle_access_idle x s hb).trans hu, hlat⟩

theorem takeLive_goesOn (e : Input) (s : State) : GoesOn (takeLive e s) s.lat := by
  cases e with
  | host a => exact hostAccess_goesOn a s
  | complete => exact complete_goesOn s
  | clock a => exact clockCycle_goesOn a s
  | reset => exact ⟨_, rfl, rfl⟩
  | rst level => cases level <;> exact ⟨_, rfl, rfl⟩

/-- Settles O4: whatever the input and the level of the pin, the step's outcome goes on. -/
theorem everyStepGoesOn : Obligations.EveryStepGoesOn := by
  intro s
  cases hi : s.inputs with
  | nil =>
    rw [step_noInput s hi, takeNoInput]
    split
    · exact ⟨_, rfl, rfl⟩
    · exact complete_goesOn s
  | cons e rest =>
    rw [step_input s e rest hi, takeInput]
    split
    · exact ⟨_, rfl, rfl⟩
    · exact takeLive_goesOn e _

/-! ### The pin and reset as inputs (70_reset_and_hazards.md R230 to R232) -/

/-- Reset reads nothing of the machine but the fields that are not DESCORE's. -/
theorem resetRegs_congr (s s' : State) (hlat : s.lat = s'.lat) (hrst : s.rst = s'.rst) (hrdata : s.rdata = s'.rdata)
    (hinputs : s.inputs = s'.inputs) : resetRegs s = resetRegs s' := by
  rw [resetRegs, resetRegs, hlat, hrst, hrdata, hinputs]

/-- Settles O31: the reset values, and the four fields in which the two states agree. -/
theorem resetForgetsTheCommandInFlight : Obligations.ResetForgetsTheCommandInFlight := by
  intro s s' rest h h' hlat hrst hrdata
  have hregs := resetRegs_congr (withInputs rest s) (withInputs rest s') hlat hrst hrdata rfl
  rw [step_reset s rest h, step_reset s' rest h', hregs]

/-- While the pin is high it falls with its own input only. -/
theorem pinAfter_eq_false_iff (e : Input) (s : State) (hr : s.rst = true) : pinAfter e s = false ↔ e = .rst false := by
  cases e <;> simp [pinAfter, hr]

/-- An input while the pin is high. -/
theorem step_held (s : State) (e : Input) (rest : List Input) (h : s.inputs = e :: rest) (hr : s.rst = true) :
    step s = .next (heldInReset e (withInputs rest s)) :=
  (step_input s e rest h).trans (takeInput_held e _ hr)

/-- The pin's rise (log 11). -/
theorem step_rise (s : State) (rest : List Input) (h : s.inputs = .rst true :: rest) (hr : s.rst = false) :
    step s = .next { resetRegs (withInputs rest s) with rst := true } :=
  (step_input s _ rest h).trans (takeInput_live _ _ hr)

/-- A host access to a machine with nothing in flight, alone or in a clock cycle. -/
theorem step_access_idle (s : State) (a : Access) (e : Input) (rest : List Input) (hr : s.rst = false)
    (hb : s.busy = false) (h : s.inputs = e :: rest) (he : e = .host a ∨ e = .clock (some a)) :
    step s = hostAccess a (withInputs rest s) := by
  obtain rfl | rfl := he
  · exact step_host s a rest hr h
  · exact (step_clock s (some a) rest hr h).trans (clockCycle_access_idle a _ hb)

/-- Settles O32: held at the reset values while the pin is high, and an idle machine once it has fallen. -/
theorem resetPinHoldsTheMachine : Obligations.ResetPinHoldsTheMachine := by
  refine ⟨fun s e rest h hpin => ?held, fun s hr h => ?none, fun s a e rest hr h he => ?released⟩
  case held =>
    cases hr : s.rst with
    | true =>
      refine ⟨_, step_held s e rest h hr, rfl, rfl, rfl, rfl, rfl, rfl, rfl, rfl, rfl, rfl,
        pinAfter_eq_false_iff e _ hr, ?_⟩
      rintro ⟨a, ha⟩
      simp [heldInReset, readDataInReset, ha]
    | false =>
      obtain rfl : e = .rst true := by simpa [hr] using hpin
      exact ⟨_, step_rise s rest h hr, rfl, rfl, rfl, rfl, rfl, rfl, rfl, rfl, rfl, rfl, by simp, by simp [accessOf]⟩
  case none =>
    refine ⟨resetRegs s, ?_, h, hr, rfl, rfl, rfl, rfl, rfl, rfl, rfl, rfl, rfl⟩
    rw [step_noInput s h, takeNoInput, if_pos hr]
  case released =>
    exact ⟨_, step_held s _ _ h hr, rfl, step_access_idle _ a e rest rfl rfl rfl he⟩

end Sys2Proof.Proofs

/-! SUPPORT. Sitting 9, the sequencer: its invariant, its last cycle against the atomic completion, and runs of clock cycles. -/

namespace Sys2Proof.Proofs

open Sys2Proof Sys2Proof.Machine Sys2Proof.Laws

/-! ### The sequencer's invariant (41_key_schedule.md R125, 44_block_cipher.md R181) -/

theorem sequencerInv_of_idle (s : State) (h : s.busy = false) : SequencerInv s := by
  simp [SequencerInv, h]

/-- Before the first cycle of a command nothing is asked of the working registers. -/
theorem sequencerInv_of_rc_zero (s : State) (h : s.rc = 0) : SequencerInv s := by
  simp [SequencerInv, KeyProgress, CipherProgress, h]

/-- No access touches the registers of a command in flight (45_interface_commands.md R191, R195). -/
theorem hostAccess_inFlight (a : Access) (s u : State) (h : hostAccess a s = .next u) (hb : s.busy = true) :
    u.busy = true ∧ u.pendOp = s.pendOp ∧ u.pendIdx = s.pendIdx ∧ u.opnd = s.opnd ∧ u.sk = s.sk ∧ u.rc = s.rc ∧
    u.workL = s.workL ∧ u.workR = s.workR ∧ u.workC = s.workC ∧ u.workD = s.workD ∧ u.window = s.window := by
  obtain ⟨addr, -, rfl⟩ | ⟨w, -, hw⟩ | ⟨v, -, rfl⟩ | ⟨addr, v, -, -, -, rfl⟩ := hostAccess_cases a s u h
  · simp [hb]
  · rw [issue_busy w s hb, Host.Outcome.next.injEq] at hw
    simp [← hw, hb]
  · simp [hb]
  · simp [hb]

theorem portTurn_inFlight (a : Option Access) (s u : State) (h : PortTurn a s u) (hb : s.busy = true) :
    u.busy = true ∧ u.pendOp = s.pendOp ∧ u.pendIdx = s.pendIdx ∧ u.opnd = s.opnd ∧ u.sk = s.sk ∧ u.rc = s.rc ∧
    u.workL = s.workL ∧ u.workR = s.workR ∧ u.workC = s.workC ∧ u.workD = s.workD ∧ u.window = s.window := by
  cases a with
  | none => obtain rfl := (portTurn_none s u).mp h; simp [hb]
  | some x => exact hostAccess_inFlight x s u h hb

theorem sequencerInv_hostAccess (a : Access) (s u : State) (h : SequencerInv s) (ha : hostAccess a s = .next u) :
    SequencerInv u := by
  cases hb : s.busy with
  | true =>
    obtain ⟨hbusy, hop, -, hopnd, hsk, hrc, hl, hr, hc, hd, -⟩ := hostAccess_inFlight a s u ha hb
    simpa only [SequencerInv, KeyProgress, CipherProgress, hbusy, hb, hop, hopnd, hsk, hrc, hl, hr, hc, hd] using h
  | false =>
    obtain ⟨addr, -, rfl⟩ | ⟨w, -, hw⟩ | ⟨v, -, rfl⟩ | ⟨addr, v, -, -, -, rfl⟩ := hostAccess_cases a s u ha
    · exact h
    · obtain ⟨hb', -⟩ | ⟨-, -, rfl⟩ | ⟨-, i, -, -, rfl⟩ | ⟨-, i, -, -, rfl⟩ := issue_cases w s u hw
      · simp [hb] at hb'
      · exact sequencerInv_of_idle _ hb
      · exact sequencerInv_of_idle _ hb
      · exact sequencerInv_of_rc_zero _ rfl
    · exact h
    · exact sequencerInv_of_idle _ (by simpa using hb)

/-! #### One cycle of LOADKEY -/

theorem keyProgress_first (s : State) : KeyProgress (keyCycleFirst s) := by
  simp [KeyProgress]

/-- After the round of cycle `i + 1`, C and D are the halves after that many rounds. -/
theorem keyCycleRound_halves (i : Fin 16) (s : State) (hrc : s.rc.toNat = i.val + 1) (h : KeyProgress s) :
    KeyHalves.mk (keyCycleRound i s).workC (keyCycleRound i s).workD = halvesAfter s.opnd (i.val + 1) := by
  obtain ⟨-, hprogress⟩ := h
  have hne : s.rc ≠ 0 := by rintro h0; simp [h0] at hrc
  obtain ⟨hhalves, -⟩ := hprogress hne
  rw [hrc, Nat.add_sub_cancel] at hhalves
  rw [halvesAfter_succ s.opnd i.isLt, ← hhalves]
  rfl

/-- After the round of cycle `i + 1`, that many subkeys are those of the captured key. -/
theorem keyCycleRound_subkeys (i : Fin 16) (s : State) (hrc : s.rc.toNat = i.val + 1) (h : KeyProgress s) (j : Fin 16)
    (hj : j.val < i.val + 1) : (keyCycleRound i s).sk.get j = (keySchedule s.opnd).get j := by
  have hnew := keyCycleRound_halves i s hrc h
  obtain ⟨-, hprogress⟩ := h
  have hne : s.rc ≠ 0 := by rintro h0; simp [h0] at hrc
  obtain ⟨-, hwritten⟩ := hprogress hne
  by_cases hij : i = j
  · subst hij
    rw [keySchedule_get, ← hnew]
    simp [Vector.get_eq_getElem]
  · have hlt : j.val < s.rc.toNat - 1 := by omega
    rw [← hwritten j hlt]
    simp [Vector.get_eq_getElem, Fin.val_ne_of_ne hij]

theorem toNat_roundCount (i : Fin 16) : (BitVec.ofNat 5 (i.val + 2)).toNat = i.val + 2 := by
  rw [BitVec.toNat_ofNat]
  omega

theorem keyProgress_round (i : Fin 16) (s : State) (hi : i.val < 15) (hrc : s.rc.toNat = i.val + 1)
    (h : KeyProgress s) : KeyProgress (keyCycleRound i s) := by
  rw [KeyProgress, keyCycleRound_rc, toNat_roundCount]
  exact ⟨by omega, fun _ => ⟨keyCycleRound_halves i s hrc h, keyCycleRound_subkeys i s hrc h⟩⟩

/-! #### One cycle of ENCRYPT or DECRYPT -/

theorem cipherProgress_first (ord : Fin 16 → Fin 16) (s : State) : CipherProgress ord (cipherCycleFirst s) := by
  simp [CipherProgress]

theorem cipherProgress_round (ord : Fin 16 → Fin 16) (i : Fin 16) (s : State) (hrc : s.rc.toNat = i.val + 1)
    (h : CipherProgress ord s) : CipherProgress ord (cipherCycleRound ord i s) := by
  obtain ⟨-, hprogress⟩ := h
  have hne : s.rc ≠ 0 := by rintro h0; simp [h0] at hrc
  have hhalves := hprogress hne
  rw [hrc, Nat.add_sub_cancel] at hhalves
  rw [CipherProgress, cipherCycleRound_rc, toNat_roundCount]
  refine ⟨by omega, fun _ => ?_⟩
  rw [cipherCycleRound_opnd, cipherCycleRound_sk, show i.val + 2 - 1 = i.val + 1 by omega, roundsAfter_succ, ← hhalves]
  rfl

/-! #### Every step -/

theorem sequencerInv_workCycle (s : State) (h : SequencerInv s) (hb : s.busy = true) : SequencerInv (workCycle s) := by
  obtain ⟨hkey, henc, hdec⟩ := h
  obtain e | ⟨ho, -, e⟩ | ⟨i, ho, hrc, hi, e⟩ | ⟨ho, -, e⟩ | ⟨i, ho, hrc, e⟩ | ⟨i, ho, hrc, e⟩ := workCycle_cases s <;>
    rw [e]
  · exact ⟨hkey, henc, hdec⟩
  · exact ⟨fun _ _ => keyProgress_first s, by simp [ho], by simp [ho]⟩
  · exact ⟨fun _ _ => keyProgress_round i s hi hrc (hkey hb ho), by simp [ho], by simp [ho]⟩
  · exact ⟨by obtain ho | ho := ho <;> simp [ho], fun _ _ => cipherProgress_first _ s,
      fun _ _ => cipherProgress_first _ s⟩
  · exact ⟨by simp [ho], fun _ _ => cipherProgress_round _ i s hrc (henc hb ho), by simp [ho]⟩
  · exact ⟨by simp [ho], by simp [ho], fun _ _ => cipherProgress_round _ i s hrc (hdec hb ho)⟩

theorem endCycle_busy (s : State) : (endCycle s).busy = false := by
  obtain ⟨-, -, -, -, -, -, -, -, -, -, -, hidle, -⟩ := endCycle_frame s
  exact hidle

theorem endCycle_inputs (s : State) : (endCycle s).inputs = s.inputs := by
  obtain ⟨-, -, -, -, -, -, -, -, -, -, hinputs, -⟩ := endCycle_frame s
  exact hinputs

/-- A cycle that goes on counts the window down and leaves the latch, the pin and the inputs. -/
theorem countedWorkCycle_frame (s : State) :
    (workCycle (countCycle s)).busy = s.busy ∧ (workCycle (countCycle s)).window = s.window - 1 ∧
    (workCycle (countCycle s)).pendOp = s.pendOp ∧ (workCycle (countCycle s)).opnd = s.opnd ∧
    (workCycle (countCycle s)).rst = s.rst ∧ (workCycle (countCycle s)).inputs = s.inputs := by
  have hframe := workCycle_frame (countCycle s)
  simp [hframe]

theorem sequencerInv_engineTurn (s t : State) (hb : s.busy = true) (h : SequencerInv s) (he : EngineTurn s t) :
    SequencerInv t := by
  obtain rfl | rfl := he
  · by_cases hw : s.window ≤ 1
    · rw [engineTick_last s hb hw]
      exact sequencerInv_of_idle _ (endCycle_busy s)
    · rw [engineTick_work s hb (by omega)]
      exact sequencerInv_workCycle (countCycle s) h hb
  · exact sequencerInv_of_idle _ rfl

/-- Settles O36: an acceptance starts at RC = 0, an access leaves the command in flight, and a cycle goes one round on. -/
theorem everyStepKeepsTheSequencerInvariant : Obligations.EveryStepKeepsTheSequencerInvariant := fun s t hs h =>
  step_keeps s t h hs (fun _ _ hu => hu) sequencerInv_hostAccess sequencerInv_engineTurn
    fun _ => sequencerInv_of_idle _ rfl

/-! ### The last cycle and the atomic completion (45_interface_commands.md R197) -/

/-- The atomic completion of the command in flight (45_interface_commands.md R196). -/
def completion (s : State) : State := finish (effectOf (pending s) s)

theorem completion_of_pending {s : State} {i : Instr} (h : pending s = i) : completion s = finish (effectOf i s) := by
  rw [completion, h]

/-- A cycle that goes on does not change what the atomic completion would leave: it writes working registers, and subkeys that LOADKEY's completion writes again. -/
theorem completion_workCycle (s : State) : withoutWork (completion (workCycle s)) = withoutWork (completion s) := by
  obtain e | ⟨ho, -, e⟩ | ⟨i, ho, -, -, e⟩ | ⟨ho | ho, -, e⟩ | ⟨i, ho, -, e⟩ | ⟨i, ho, -, e⟩ := workCycle_cases s <;>
    rw [e]
  all_goals
    simp only [completion, pending, ho, keyCycleFirst_pendOp, keyCycleRound_pendOp, cipherCycleFirst_pendOp,
      cipherCycleRound_pendOp, effectOf]
    rfl

theorem completion_countCycle (s : State) : withoutWork (completion (countCycle s)) = withoutWork (completion s) := by
  rw [completion_of_pending (s := countCycle s) (i := pending s) rfl, completion]
  cases pending s <;> rfl

theorem completion_withInputs (rest : List Input) (s : State) :
    withoutWork (completion (withInputs rest s)) = withInputs rest (withoutWork (completion s)) :=
  (congrArg withoutWork (withInputs_completion rest (pending s) s)).symm

/-- LOADKEY's own last cycle completes the key schedule. -/
theorem keyCycleLast_eq_completion (s : State) (hop : s.pendOp = .loadkey) (hrc : s.rc = 16) (h : KeyProgress s) :
    withoutWork (keyCycleLast (keyCycleRound 15 s)) = withoutWork (completion s) := by
  have hsk : (keyCycleRound 15 s).sk = keySchedule s.opnd := by
    refine Vector.ext fun j hj => ?_
    exact keyCycleRound_subkeys 15 s (by simp [hrc]) h ⟨j, hj⟩ (by omega)
  calc withoutWork (keyCycleLast (keyCycleRound 15 s))
      = withoutWork (finish { s with sk := (keyCycleRound 15 s).sk, skv := 0xFFFF }) := rfl
    _ = withoutWork (completion s) := by rw [hsk, completion_of_pending (pending_eq_loadkey s hop)]; rfl

/-- The cipher's own last cycle joins the halves after all sixteen rounds. -/
theorem cipherCycleLast_eq (ord : Fin 16 → Fin 16) (s : State) (hrc : s.rc = 17) (h : CipherProgress ord s) :
    cipherCycleLast s = finish { s with dataOut := cipher s.opnd s.sk ord } := by
  obtain ⟨-, hprogress⟩ := h
  have hhalves : Halves.mk s.workL s.workR = roundsAfter s.opnd s.sk ord 16 := by simpa [hrc] using hprogress
  rw [cipherCycleLast, hhalves, cipher_eq_joinBlock]

/-- The cycle that ends a command leaves what the atomic completion leaves, the working registers aside. -/
theorem endCycle_eq_completion (s : State) (hb : s.busy = true) (h : SequencerInv s) :
    withoutWork (endCycle s) = withoutWork (completion s) := by
  obtain ⟨hkey, henc, hdec⟩ := h
  obtain e | ⟨ho, hrc, e⟩ | ⟨ho | ho, hrc, e⟩ := endCycle_cases s <;> rw [e]
  · rfl
  · exact keyCycleLast_eq_completion s ho hrc (hkey hb ho)
  · have hp : pending s = .encrypt := by rw [pending, ho]
    rw [cipherCycleLast_eq _ s hrc (henc hb ho), completion_of_pending hp]
    rfl
  · have hp : pending s = .decrypt := by rw [pending, ho]
    rw [cipherCycleLast_eq _ s hrc (hdec hb ho), completion_of_pending hp]
    rfl

/-! ### Clock cycles -/

/-- A clock cycle that finds a command in flight is the host's access and then an engine cycle (20_memory.md R62). -/
theorem clockCycle_busy (a : Option Access) (s : State) (hb : s.busy = true) :
    ∃ u, PortTurn a s u ∧ clockCycle a s = .next (engineTick u) := by
  cases a with
  | none => exact ⟨s, rfl, clockCycle_none_busy s hb⟩
  | some x =>
    obtain ⟨u, hu, -⟩ := hostAccess_goesOn x s
    exact ⟨u, hu, clockCycle_access_busy x s u hb hu⟩

theorem step_clock_busy (s : State) (a : Option Access) (rest : List Input) (hr : s.rst = false) (hb : s.busy = true)
    (h : s.inputs = .clock a :: rest) :
    ∃ u, PortTurn a (withInputs rest s) u ∧ step s = .next (engineTick u) := by
  obtain ⟨u, hu, hclock⟩ := clockCycle_busy a (withInputs rest s) hb
  exact ⟨u, hu, (step_clock s a rest hr h).trans hclock⟩

theorem step_clock_none_busy (s : State) (rest : List Input) (hr : s.rst = false) (hb : s.busy = true)
    (h : s.inputs = .clock none :: rest) : step s = .next (engineTick (withInputs rest s)) :=
  (step_clock s none rest hr h).trans (clockCycle_none_busy _ hb)

/-- The last cycle of the window. -/
theorem step_clock_none_last (s : State) (rest : List Input) (hr : s.rst = false) (hb : s.busy = true)
    (h : s.inputs = .clock none :: rest) (hw : s.window ≤ 1) : step s = .next (endCycle (withInputs rest s)) :=
  (step_clock_none_busy s rest hr hb h).trans (congrArg _ (engineTick_last (withInputs rest s) hb hw))

/-- Every other cycle of the window. -/
theorem step_clock_none_work (s : State) (rest : List Input) (hr : s.rst = false) (hb : s.busy = true)
    (h : s.inputs = .clock none :: rest) (hw : 1 < s.window) :
    step s = .next (workCycle (countCycle (withInputs rest s))) :=
  (step_clock_none_busy s rest hr hb h).trans (congrArg _ (engineTick_work (withInputs rest s) hb hw))

/-- Settles O41: a clock cycle is its access, and an engine cycle if a command was in flight before. -/
theorem hostAccessComesFirstInACycle : Obligations.HostAccessComesFirstInACycle := by
  intro s rest hr
  refine ⟨fun hb h => step_clock_none_busy s rest hr hb h, fun hb a h => step_clock_busy s (some a) rest hr hb h,
    fun hb w h => ?dropped, fun hb h => ?idle, fun hb a h => step_access_idle s a _ rest hr hb h (.inr rfl)⟩
  case dropped =>
    exact (step_clock s _ rest hr h).trans (clockCycle_access_busy _ _ _ hb (issue_busy w _ hb))
  case idle => exact (step_clock s none rest hr h).trans (clockCycle_none_idle _ hb)

/-- Settles O40: a cycle that ends the command is the last of its window. -/
theorem lastCycleEqualsTheAtomicCompletion : Obligations.LastCycleEqualsTheAtomicCompletion := by
  intro s t u rest hs hr hb ht hidle hu
  have hu' := hu.symm.trans (step_completion { s with inputs := .complete :: rest } rest hr rfl hb)
  by_cases hw : s.window ≤ 1
  · have ht' := ht.symm.trans (step_clock_none_last { s with inputs := .clock none :: rest } rest hr hb rfl hw)
    rw [Host.Outcome.next.inj ht', Host.Outcome.next.inj hu']
    exact endCycle_eq_completion (withInputs rest s) hb hs
  · have ht' := ht.symm.trans
      (step_clock_none_work { s with inputs := .clock none :: rest } rest hr hb rfl (Nat.lt_of_not_le hw))
    obtain ⟨hbusy, -⟩ := countedWorkCycle_frame (withInputs rest s)
    rw [Host.Outcome.next.inj ht'] at hidle
    exact absurd (hidle.symm.trans (hbusy.trans hb)) Bool.false_ne_true

/-! ### From an accepted CMD write to the end of its window (70_reset_and_hazards.md R240 to R242) -/

/-- The clock cycle of an accepted CMD write. -/
theorem step_clock_accept (s : State) (i : Instr) (rest : List Input) (hr : s.rst = false) (hb : s.busy = false)
    (hk : keyReady i s = true) (h : s.inputs = .clock (some (.write 0x0 (encode i))) :: rest) :
    step s = .next (accept i (withInputs rest s)) := by
  rw [commandWriteRunsTheDecodedCommand s (encode i) i rest hr hb (decode_encode i) (.inr h)]
  exact exec_ready i (withInputs rest s) hb ((keyReady_of_skv i s _ rfl).trans hk)

/-- Whatever the host's accesses, a command in flight ends with the last cycle of its window and not before. -/
theorem clockRun_busy (accesses : List (Option Access)) (s : State) (rest : List Input) (hr : s.rst = false)
    (hb : s.busy = true) (hpos : 0 < s.window) (hlen : accesses.length ≤ s.window)
    (h : s.inputs = accesses.map .clock ++ rest) :
    ∃ t, stepsTo accesses.length s t ∧ t.inputs = rest ∧ (t.busy = true ↔ accesses.length < s.window) := by
  induction accesses generalizing s with
  | nil => exact ⟨s, rfl, h, by simp [hb, hpos]⟩
  | cons a accesses ih =>
    rw [List.length_cons] at hlen ⊢
    obtain ⟨u, hu, hstep⟩ := step_clock_busy s a _ hr hb h
    obtain ⟨hub, -, -, -, -, -, -, -, -, -, hwindow⟩ := portTurn_inFlight a _ u hu hb
    obtain ⟨-, hrst, hinputs⟩ := portTurn_ownFields a _ u hu
    by_cases hw : s.window ≤ 1
    · obtain rfl : accesses = [] := List.length_eq_zero_iff.mp (by omega)
      rw [engineTick_last u hub (hwindow.trans_le hw)] at hstep
      exact ⟨_, ⟨_, hstep, rfl⟩, (endCycle_inputs u).trans hinputs, by simp [endCycle_busy, hw]⟩
    · rw [engineTick_work u hub (by rw [hwindow]; simpa using hw)] at hstep
      obtain ⟨hbusy', hwindow', -, -, hrst', hinputs'⟩ := countedWorkCycle_frame u
      have hcount : (workCycle (countCycle u)).window = s.window - 1 := hwindow'.trans (congrArg (· - 1) hwindow)
      obtain ⟨t, hrun, hrest, hiff⟩ := ih _ (hrst'.trans (hrst.trans hr)) (hbusy'.trans hub)
        (by rw [hcount]; omega) (by rw [hcount]; omega) (hinputs'.trans hinputs)
      exact ⟨t, ⟨_, hstep, hrun⟩, hrest, by rw [hiff, hcount]; omega⟩

/-- Settles O37: the window starts at the latency when the command is accepted. -/
theorem commandsTakeTheirLatency : Obligations.CommandsTakeTheirLatency := by
  refine ⟨rfl, fun s i accesses rest hr hb hk hpos hlen h => ?_⟩
  obtain ⟨t, hrun, hrest, hiff⟩ := 
    clockRun_busy accesses (accept i (withInputs (accesses.map .clock ++ rest) s)) rest hr rfl hpos hlen rfl
  exact ⟨t, ⟨_, step_clock_accept s i _ hr hb hk h, hrun⟩, hrest, hiff⟩

/-- Clock cycles without an access, as many as the window, leave what the atomic completion leaves. -/
theorem clockRun_completes (n : Nat) (s : State) (rest : List Input) (hr : s.rst = false) (hb : s.busy = true)
    (hs : SequencerInv s) (hw : s.window = n + 1) (h : s.inputs = List.replicate (n + 1) (.clock none) ++ rest) :
    ∃ t, stepsTo (n + 1) s t ∧ t.busy = false ∧ withoutWork t = withInputs rest (withoutWork (completion s)) := by
  induction n generalizing s with
  | zero =>
    exact ⟨_, ⟨_, step_clock_none_last s rest hr hb h (by omega), rfl⟩, endCycle_busy _,
      (endCycle_eq_completion (withInputs rest s) hb hs).trans (completion_withInputs rest s)⟩
  | succ n ih =>
    have hstep := step_clock_none_work s _ hr hb h (by omega)
    obtain ⟨hbusy', hwindow', -, -, hrst', hinputs'⟩ :=
      countedWorkCycle_frame (withInputs (List.replicate (n + 1) (.clock none) ++ rest) s)
    have hcount := hwindow'.trans (congrArg (· - 1) hw)
    obtain ⟨t, hrun, hidle, ht⟩ :=
      ih _ (hrst'.trans hr) (hbusy'.trans hb) (sequencerInv_workCycle _ hs hb) hcount hinputs'
    refine ⟨t, ⟨_, hstep, hrun⟩, hidle, ht.trans ?_⟩
    rw [completion_workCycle, completion_countCycle, completion_withInputs, withInputs_withInputs]

/-- A CMD write and the engine's turn after it, with the key requirement met. -/
theorem stepsTo_accept_complete (s : State) (i : Instr) (rest : List Input) (hr : s.rst = false) (hb : s.busy = false)
    (hk : keyReady i s = true) (h : s.inputs = .host (.write 0x0 (encode i)) :: .complete :: rest) :
    step s = .next (accept i (withInputs (.complete :: rest) s)) ∧
    step (accept i (withInputs (.complete :: rest) s)) = .next (completion (accept i (withInputs rest s))) := by
  constructor
  · rw [commandWriteRunsTheDecodedCommand s (encode i) i _ hr hb (decode_encode i) (.inl h)]
    exact exec_ready i (withInputs (.complete :: rest) s) hb ((keyReady_of_skv i s _ rfl).trans hk)
  · exact step_completion _ rest hr rfl rfl

/-- Settles O39: after the acceptance, the cycles of the window leave what the atomic completion leaves. -/
theorem sequencerRefinesTheAtomicCompletion : Obligations.SequencerRefinesTheAtomicCompletion := by
  intro s i rest hr hb hk hpos
  obtain ⟨n, hn⟩ := Nat.exists_eq_add_one_of_ne_zero hpos.ne'
  rw [hn]
  have hclock := step_clock_accept
    { s with inputs := .clock (some (.write 0x0 (encode i))) :: (List.replicate (n + 1) (.clock none) ++ rest) } i _ hr
    hb ((keyReady_of_skv i s _ rfl).trans hk) rfl
  obtain ⟨t, hrun, hidle, ht⟩ := clockRun_completes n
    (accept i (withInputs (List.replicate (n + 1) (.clock none) ++ rest) s)) rest hr rfl
    (sequencerInv_of_rc_zero _ rfl) hn rfl
  obtain ⟨haccept, hcomplete⟩ := stepsTo_accept_complete
    { s with inputs := .host (.write 0x0 (encode i)) :: .complete :: rest } i rest hr hb
    ((keyReady_of_skv i s _ rfl).trans hk) rfl
  refine ⟨t, _, ⟨_, hclock, hrun⟩, ⟨_, haccept, _, hcomplete, rfl⟩, ht.trans ?_, hidle⟩
  exact (completion_withInputs rest _).symm

/-! ### The rounds one by one -/

/-- The sequencer has cycles left before its last one (41_key_schedule.md R125, 44_block_cipher.md R181). -/
def CyclesLeft (s : State) (k : Nat) : Prop :=
  (s.pendOp = .loadkey ∧ s.rc.toNat + k ≤ 16) ∨
  ((s.pendOp = .encrypt ∨ s.pendOp = .decrypt) ∧ s.rc.toNat + k ≤ 17)

theorem keyCycle_counts (s : State) (h : s.rc.toNat < 16) :
    (keyCycle s).rc.toNat = s.rc.toNat + 1 ∧ ∀ j : Fin 16, s.rc.toNat ≤ j.val → (keyCycle s).sk.get j = s.sk.get j := by
  obtain ⟨hrc, e⟩ | ⟨i, hrc, hi, e⟩ | ⟨hrc, e⟩ := keyCycle_cases s <;> rw [e]
  · exact ⟨by rw [hrc]; rfl, fun j _ => rfl⟩
  · refine ⟨by rw [keyCycleRound_rc, toNat_roundCount, hrc], fun j hj => ?_⟩
    have hij : i.val ≠ j.val := by omega
    simp [Vector.get_eq_getElem, hij]
  · omega

theorem cipherCycle_counts (ord : Fin 16 → Fin 16) (s : State) (h : s.rc.toNat < 17) :
    (cipherCycle ord s).rc.toNat = s.rc.toNat + 1 ∧ (cipherCycle ord s).sk = s.sk := by
  obtain ⟨hrc, e⟩ | ⟨i, hrc, e⟩ | ⟨hrc, e⟩ := cipherCycle_cases ord s <;> rw [e]
  · exact ⟨by rw [hrc]; rfl, rfl⟩
  · exact ⟨by rw [cipherCycleRound_rc, toNat_roundCount, hrc], rfl⟩
  · omega

/-- A cycle before the sequencer's last counts RC, and of the subkeys only LOADKEY's writes that of its round. -/
theorem workCycle_counts (s : State) (k : Nat) (h : CyclesLeft s (k + 1)) :
    (workCycle s).rc.toNat = s.rc.toNat + 1 ∧
    ∀ j : Fin 16, (s.pendOp = .loadkey → s.rc.toNat ≤ j.val) → (workCycle s).sk.get j = s.sk.get j := by
  obtain ⟨ho, hk⟩ | ⟨ho | ho, hk⟩ := h
  · have hcycle : workCycle s = keyCycle s := by rw [workCycle, ho]
    obtain ⟨hrc, hsk⟩ := keyCycle_counts s (by omega)
    exact hcycle ▸ ⟨hrc, fun j hj => hsk j (hj ho)⟩
  · have hcycle : workCycle s = cipherCycle orderFwd s := by rw [workCycle, ho]
    obtain ⟨hrc, hsk⟩ := cipherCycle_counts orderFwd s (by omega)
    exact hcycle ▸ ⟨hrc, fun j _ => by rw [hsk]⟩
  · have hcycle : workCycle s = cipherCycle orderRev s := by rw [workCycle, ho]
    obtain ⟨hrc, hsk⟩ := cipherCycle_counts orderRev s (by omega)
    exact hcycle ▸ ⟨hrc, fun j _ => by rw [hsk]⟩

/-- Clock cycles without an access, within the window and the sequencer's own cycles, go one round on each. -/
theorem clockRun_counts (k : Nat) (s : State) (rest : List Input) (hr : s.rst = false) (hb : s.busy = true)
    (hs : SequencerInv s) (hw : k < s.window) (hk : CyclesLeft s k)
    (h : s.inputs = List.replicate k (.clock none) ++ rest) :
    ∃ t, stepsTo k s t ∧ SequencerInv t ∧ t.busy = true ∧ t.pendOp = s.pendOp ∧ t.opnd = s.opnd ∧
      t.rc.toNat = s.rc.toNat + k ∧
      ∀ j : Fin 16, (s.pendOp = .loadkey → s.rc.toNat + k ≤ j.val + 1) → t.sk.get j = s.sk.get j := by
  induction k generalizing s with
  | zero => exact ⟨s, rfl, hs, hb, rfl, rfl, rfl, fun _ _ => rfl⟩
  | succ k ih =>
    have hstep := step_clock_none_work s _ hr hb h (by omega)
    obtain ⟨hbusy', hwindow', hop', hopnd', hrst', hinputs'⟩ :=
      countedWorkCycle_frame (withInputs (List.replicate k (.clock none) ++ rest) s)
    obtain ⟨hrc', hsk'⟩ := workCycle_counts (countCycle (withInputs (List.replicate k (.clock none) ++ rest) s)) k hk
    obtain ⟨t, hrun, hst, htb, htop, htopnd, htrc, htsk⟩ := ih _ (hrst'.trans hr) (hbusy'.trans hb)
      (sequencerInv_workCycle _ hs hb) (by rw [hwindow', withInputs_window]; omega)
      (by rw [CyclesLeft, hop', hrc']; rw [CyclesLeft] at hk; simpa [Nat.add_assoc, Nat.add_comm k] using hk) hinputs'
    refine ⟨t, ⟨_, hstep, hrun⟩, hst, htb, htop.trans hop', htopnd.trans hopnd', ?_, fun j hj => ?_⟩
    · rw [htrc, hrc', countCycle_rc, withInputs_rc]
      omega
    · refine (htsk j fun ho => ?_).trans (hsk' j fun ho => ?_)
      · have := hj (hop'.symm.trans ho)
        rw [hrc', countCycle_rc, withInputs_rc]
        omega
      · have := hj ho
        rw [countCycle_rc, withInputs_rc]
        omega

/-- Settles O38: RC counts the cycles from 0, and the invariant says what the halves and the subkeys then are. -/
theorem sequencerGoesOneRoundACycle : Obligations.SequencerGoesOneRoundACycle := by
  intro s i k rest hr hb hk hpos hw hi h
  have hleft : CyclesLeft (accept i (withInputs (List.replicate k (.clock none) ++ rest) s)) k := by
    obtain ⟨rfl, hle⟩ | ⟨rfl | rfl, hle⟩ := hi
    · exact .inl ⟨rfl, by simpa using hle⟩
    · exact .inr ⟨.inl rfl, by simpa using hle⟩
    · exact .inr ⟨.inr rfl, by simpa using hle⟩
  obtain ⟨t, hrun, ⟨hkey, henc, hdec⟩, htb, hop, hopnd, hrc, hsk⟩ := clockRun_counts k
    (accept i (withInputs (List.replicate k (.clock none) ++ rest) s)) rest hr rfl (sequencerInv_of_rc_zero _ rfl) hw
    hleft rfl
  rw [accept_rc, BitVec.ofNat_eq_ofNat, BitVec.toNat_ofNat, Nat.zero_mod, Nat.zero_add] at hrc hsk
  have hne : t.rc ≠ 0 := by
    intro h0
    simp [h0] at hrc
    omega
  have hskCipher (hi : opOf i ≠ .loadkey) : t.sk = s.sk :=
    Vector.ext fun j hj => hsk ⟨j, hj⟩ fun ho => absurd ho hi
  refine ⟨t, ⟨_, step_clock_accept s i _ hr hb hk h, hrun⟩, hrc, ?loadkey, ?encrypt, ?decrypt⟩ <;> rintro rfl
  case loadkey =>
    obtain ⟨-, hprogress⟩ := hkey htb hop
    obtain ⟨hhalves, hwritten⟩ := hprogress hne
    rw [hopnd, hrc] at hhalves hwritten
    refine ⟨hhalves, fun j => ?_⟩
    split_ifs with hj
    · exact hwritten j hj
    · exact hsk j fun _ => by omega
  case encrypt =>
    obtain ⟨-, hprogress⟩ := henc htb hop
    have hhalves := hprogress hne
    rwa [hopnd, hrc, hskCipher (by decide)] at hhalves
  case decrypt =>
    obtain ⟨-, hprogress⟩ := hdec htb hop
    have hhalves := hprogress hne
    rwa [hopnd, hrc, hskCipher (by decide)] at hhalves

end Sys2Proof.Proofs

/-! SUPPORT. Sitting 9, what the host cannot see: two states that look the same go on to look the same (10_state.md R25, R35, R36). -/

namespace Sys2Proof.Proofs

open Sys2Proof Sys2Proof.Machine Sys2Proof.Laws

/-! ### What two states that look the same agree in -/

/-- The state as the port shows it: SK, the latch, the working registers and the window set aside. -/
def portView (s : State) : State :=
  { s with
    sk := Vector.replicate 16 0, pendOp := .nop, pendIdx := 0, opnd := 0
    workL := 0, workR := 0, workC := 0, workD := 0, rc := 0, window := 0 }

/-- What a command in flight is carried out from, L, R, C, D and SK aside. -/
def latchView (s : State) : Op × SubkeyIdx × Word × BitVec 5 × Nat := (s.pendOp, s.pendIdx, s.opnd, s.rc, s.window)

theorem samePort_iff (s t : State) : SamePort s t ↔ portView s = portView t := by
  simp [SamePort, portView]

theorem sameToHost_iff (s t : State) : SameToHost s t ↔
    portView s = portView t ∧ (∀ i : Fin 16, s.skv.getLsbD i.val = true → s.sk.get i = t.sk.get i) ∧
    (s.busy = true → latchView s = latchView t) := by
  simp only [SameToHost, samePort_iff, latchView, Prod.mk.injEq]

theorem latchView_eq_iff (s t : State) : latchView s = latchView t ↔
    s.pendOp = t.pendOp ∧ s.pendIdx = t.pendIdx ∧ s.opnd = t.opnd ∧ s.rc = t.rc ∧ s.window = t.window := by
  simp only [latchView, Prod.mk.injEq]

theorem portView_eq_of_sameToHost {s t : State} (h : SameToHost s t) : portView s = portView t :=
  have ⟨hport, _⟩ := (sameToHost_iff s t).mp h
  hport

theorem sameToHost_refl (s : State) : SameToHost s s :=
  (sameToHost_iff s s).mpr ⟨rfl, fun _ _ => rfl, fun _ => rfl⟩

theorem skv_eq_of_portView {s s' : State} (h : portView s = portView s') : s.skv = s'.skv :=
  congrArg (fun v => v.skv) h

theorem busy_eq_of_portView {s s' : State} (h : portView s = portView s') : s.busy = s'.busy :=
  congrArg (fun v => v.busy) h

/-- A change of both states that the port shows alike, and that leaves SK, SKV and a latch in flight alone. -/
theorem sameToHost_of_port {s s' u u' : State} (h : SameToHost s s') (hport : portView u = portView u')
    (hsk : u.sk = s.sk) (hsk' : u'.sk = s'.sk) (hskv : u.skv = s.skv) (hbusy : u.busy = s.busy)
    (hlatch : latchView u = latchView s) (hlatch' : latchView u' = latchView s') : SameToHost u u' := by
  obtain ⟨-, hvalid, hflight⟩ := (sameToHost_iff s s').mp h
  rw [sameToHost_iff, hsk, hsk', hskv, hbusy, hlatch, hlatch']
  exact ⟨hport, hvalid, hflight⟩

/-! ### The host's access -/

theorem sameToHost_hostRead (a : Addr) {s s' : State} (h : SameToHost s s') :
    SameToHost (hostRead a s) (hostRead a s') :=
  sameToHost_of_port h (congrArg (hostRead a) (portView_eq_of_sameToHost h)) rfl rfl rfl rfl rfl rfl

theorem sameToHost_statusWrite (v : Word) {s s' : State} (h : SameToHost s s') :
    SameToHost (statusWrite v s) (statusWrite v s') :=
  sameToHost_of_port h (congrArg (statusWrite v) (portView_eq_of_sameToHost h)) rfl rfl rfl rfl rfl rfl

theorem portView_dataWrite (a : Addr) (v : Word) (s : State) :
    portView (dataWrite a v s) = dataWrite a v (portView s) := by
  unfold dataWrite
  split_ifs <;> rfl

theorem latchView_dataWrite (a : Addr) (v : Word) (s : State) : latchView (dataWrite a v s) = latchView s := by
  simp [latchView]

theorem sameToHost_dataWrite (a : Addr) (v : Word) {s s' : State} (h : SameToHost s s') :
    SameToHost (dataWrite a v s) (dataWrite a v s') := by
  have hport := portView_eq_of_sameToHost h
  exact sameToHost_of_port h (by rw [portView_dataWrite, portView_dataWrite, hport]) (dataWrite_sk ..) (dataWrite_sk ..)
    (dataWrite_skv ..) (dataWrite_busy ..) (latchView_dataWrite ..) (latchView_dataWrite ..)

theorem sameToHost_dropWhileBusy {s s' : State} (h : SameToHost s s') :
    SameToHost (dropWhileBusy s) (dropWhileBusy s') :=
  sameToHost_of_port h (congrArg dropWhileBusy (portView_eq_of_sameToHost h)) rfl rfl rfl rfl rfl rfl

theorem sameToHost_reject (code : BitVec 4) {s s' : State} (h : SameToHost s s') :
    SameToHost (reject code s) (reject code s') :=
  sameToHost_of_port h (congrArg (reject code) (portView_eq_of_sameToHost h)) rfl rfl rfl rfl rfl rfl

/-- The operand and the latency that an accepted command puts into the latch are the port's. -/
theorem latchView_accept_portView (i : Instr) (s : State) :
    latchView (accept i (portView s)) = latchView (accept i s) := by
  cases i <;> rfl

theorem sameToHost_accept (i : Instr) {s s' : State} (h : SameToHost s s') : SameToHost (accept i s) (accept i s') := by
  obtain ⟨hport, hvalid, -⟩ := (sameToHost_iff s s').mp h
  have hview : portView (accept i s) = portView (accept i s') := (congrArg (portView ∘ accept i) hport :)
  refine (sameToHost_iff _ _).mpr ⟨hview, hvalid, fun _ => ?_⟩
  rw [← latchView_accept_portView, hport, latchView_accept_portView]

theorem sameToHost_issueLegal (i : Instr) {s s' : State} (h : SameToHost s s') :
    SameToHost (issueLegal i s) (issueLegal i s') := by
  have hport := portView_eq_of_sameToHost h
  rw [issueLegal, issueLegal, keyReady_of_skv i s s' (skv_eq_of_portView hport).symm]
  split
  · exact sameToHost_accept i h
  · exact sameToHost_reject errNoKey h

/-- Two outcomes that both go on, to states that look the same. -/
def SameOutcome (o o' : Result) : Prop := ∃ t t', o = .next t ∧ o' = .next t' ∧ SameToHost t t'

theorem sameOutcome_issue (w : Word) {s s' : State} (h : SameToHost s s') : SameOutcome (issue w s) (issue w s') := by
  have hport := portView_eq_of_sameToHost h
  have hbusy := busy_eq_of_portView hport
  cases hb : s.busy with
  | true => exact ⟨_, _, issue_busy w s hb, issue_busy w s' (hbusy.symm.trans hb), sameToHost_dropWhileBusy h⟩
  | false =>
    have hb' := hbusy.symm.trans hb
    cases hd : decode w with
    | illegal why => exact ⟨_, _, issue_illegal s hb hd, issue_illegal s' hb' hd, sameToHost_reject errIllegalCmd h⟩
    | legal i => exact ⟨_, _, issue_legal s hb hd, issue_legal s' hb' hd, sameToHost_issueLegal i h⟩

theorem sameOutcome_hostAccess (a : Access) {s s' : State} (h : SameToHost s s') :
    SameOutcome (hostAccess a s) (hostAccess a s') := by
  cases a with
  | read addr => exact ⟨_, _, rfl, rfl, sameToHost_hostRead addr h⟩
  | write addr v =>
    by_cases h0 : addr = 0x0
    · subst h0; exact sameOutcome_issue v h
    · by_cases h1 : addr = 0x1
      · subst h1; exact ⟨_, _, regWrite_status v s, regWrite_status v s', sameToHost_statusWrite v h⟩
      · exact ⟨_, _, regWrite_data addr v s h0 h1, regWrite_data addr v s' h0 h1, sameToHost_dataWrite addr v h⟩

/-! ### The engine's turn -/

/-- Of an idle machine the host sees neither the latch nor the working registers. -/
theorem sameToHost_of_idle {s s' : State} (hb : s.busy = false) (hport : portView s = portView s')
    (hvalid : ∀ i : Fin 16, s.skv.getLsbD i.val = true → s.sk.get i = s'.sk.get i) : SameToHost s s' :=
  (sameToHost_iff s s').mpr ⟨hport, hvalid, by simp [hb]⟩

/-- With every subkey valid the subkey files are equal. -/
theorem sk_eq_of_allValid {s s' : State} (hskv : s.skv = 0xFFFF)
    (hvalid : ∀ i : Fin 16, s.skv.getLsbD i.val = true → s.sk.get i = s'.sk.get i) : s.sk = s'.sk := by
  refine Vector.ext fun j hj => hvalid ⟨j, hj⟩ ?_
  rw [hskv]
  exact getLsbD_allValid hj

/-- A completion read through the port: DATA_OUT and SUBKEY_IO get what the command has computed. -/
theorem portView_completion_encrypt (s : State) :
    portView (finish (effectEncrypt s)) = finish { portView s with dataOut := cipher s.opnd s.sk orderFwd } := rfl

theorem portView_completion_decrypt (s : State) :
    portView (finish (effectDecrypt s)) = finish { portView s with dataOut := cipher s.opnd s.sk orderRev } := rfl

theorem portView_completion_rdsubkey (idx : SubkeyIdx) (s : State) :
    portView (finish (effectRdsubkey idx s)) = finish { portView s with subkeyIo := readSubkey idx s } := rfl

/-- A command that finds its key requirement met completes alike: it reads the latch, and only valid subkeys. -/
theorem sameToHost_effectOf (i : Instr) {s s' : State} (h : SameToHost s s') (hopnd : s.opnd = s'.opnd)
    (hk : keyReady i s = true) : SameToHost (finish (effectOf i s)) (finish (effectOf i s')) := by
  obtain ⟨hport, hvalid, -⟩ := (sameToHost_iff s s').mp h
  have hskv := skv_eq_of_portView hport
  cases i with
  | nop => exact sameToHost_of_idle rfl (congrArg finish hport) hvalid
  | loadkey =>
    have hview := congrArg (fun v => finish { v with skv := 0xFFFF }) hport
    exact sameToHost_of_idle rfl hview fun j _ => congrArg (fun key => (keySchedule key).get j) hopnd
  | encrypt =>
    have hsk := sk_eq_of_allValid (beq_iff_eq.mp hk) hvalid
    refine sameToHost_of_idle rfl ?_ hvalid
    rw [effectOf, effectOf, portView_completion_encrypt, portView_completion_encrypt, hport, hopnd, hsk]
  | decrypt =>
    have hsk := sk_eq_of_allValid (beq_iff_eq.mp hk) hvalid
    refine sameToHost_of_idle rfl ?_ hvalid
    rw [effectOf, effectOf, portView_completion_decrypt, portView_completion_decrypt, hport, hopnd, hsk]
  | wrsubkey idx =>
    have hview := congrArg (fun v => finish { v with skv := v.skv ||| (1 <<< idx.toNat) }) hport
    refine sameToHost_of_idle rfl hview fun j hj => ?_
    rw [effectOf, effectOf, effectWrsubkey, effectWrsubkey, finish_skv, getLsbD_writeSubkey_skv _ _ _ j.isLt] at *
    rw [finish_sk, finish_sk, get_writeSubkey, get_writeSubkey, hopnd]
    split_ifs with hij
    · rfl
    · exact hvalid j (by simpa [hij] using hj)
  | rdsubkey idx =>
    have hread : readSubkey idx s = readSubkey idx s' := hvalid (slotOf idx) hk
    refine sameToHost_of_idle rfl ?_ hvalid
    rw [effectOf, effectOf, portView_completion_rdsubkey, portView_completion_rdsubkey, hport, hread]

/-- Of a machine with a command in flight the invariants that its engine rests on. -/
def EngineInv (s : State) : Prop := StatusInv s ∧ SequencerInv s

theorem sameToHost_completion {s s' : State} (h : SameToHost s s') (hs : EngineInv s) (hb : s.busy = true) :
    SameToHost (completion s) (completion s') := by
  obtain ⟨⟨-, -, -, hready⟩, -⟩ := hs
  obtain ⟨-, -, hlatch⟩ := id h
  obtain ⟨hop, hidx, hopnd, -⟩ := hlatch hb
  rw [completion, completion, ← pending_of_latch s' s hop hidx]
  exact sameToHost_effectOf (pending s) h hopnd (hready hb)

/-- The view through the port, SK and SKV make no use of the working registers. -/
theorem sameToHost_of_withoutWork {s s' u u' : State} (hb : u.busy = false) (h : SameToHost u u')
    (hs : withoutWork s = withoutWork u) (hs' : withoutWork s' = withoutWork u') : SameToHost s s' := by
  obtain ⟨hport, hvalid, -⟩ := (sameToHost_iff u u').mp h
  have hview : portView s = portView s' :=
    calc portView s = portView u := (congrArg portView hs :)
      _ = portView u' := hport
      _ = portView s' := (congrArg portView hs'.symm :)
  have hsk : s.sk = u.sk := congrArg (fun v => v.sk) hs
  have hsk' : s'.sk = u'.sk := congrArg (fun v => v.sk) hs'
  have hskv : s.skv = u.skv := congrArg (fun v => v.skv) hs
  refine sameToHost_of_idle ((congrArg (fun v => v.busy) hs).trans hb) hview ?_
  rwa [hsk, hsk', hskv]

/-! #### A cycle that goes on -/

theorem portView_workCycle (s : State) : portView (workCycle s) = portView s := by
  obtain e | ⟨-, -, e⟩ | ⟨i, -, -, -, e⟩ | ⟨-, -, e⟩ | ⟨i, -, -, e⟩ | ⟨i, -, -, e⟩ :=
    workCycle_cases s <;> rw [e] <;> rfl

theorem keyCycle_rc (s : State) : (keyCycle s).rc = if s.rc.toNat < 16 then s.rc + 1 else s.rc := by
  split_ifs with h
  · obtain ⟨hrc, -⟩ := keyCycle_counts s h
    exact BitVec.eq_of_toNat_eq (by rw [hrc, BitVec.toNat_add]; simp; omega)
  · obtain ⟨hrc, -⟩ | ⟨i, hrc, hi, -⟩ | ⟨-, e⟩ := keyCycle_cases s
    · omega
    · omega
    · rw [e]

theorem cipherCycle_rc (ord : Fin 16 → Fin 16) (s : State) :
    (cipherCycle ord s).rc = if s.rc.toNat < 17 then s.rc + 1 else s.rc := by
  split_ifs with h
  · obtain ⟨hrc, -⟩ := cipherCycle_counts ord s h
    exact BitVec.eq_of_toNat_eq (by rw [hrc, BitVec.toNat_add]; simp; omega)
  · obtain ⟨hrc, -⟩ | ⟨i, hrc, -⟩ | ⟨-, e⟩ := cipherCycle_cases ord s
    · omega
    · omega
    · rw [e]

theorem workCycle_rc_congr {s s' : State} (hop : s.pendOp = s'.pendOp) (hrc : s.rc = s'.rc) :
    (workCycle s).rc = (workCycle s').rc := by
  unfold workCycle
  rw [hop]
  cases s'.pendOp <;> simp only [keyCycle_rc, cipherCycle_rc, hrc]

/-- One subkey after a cycle that goes on: LOADKEY's are those of the captured key up to its round, and every other stays. -/
theorem workCycle_get (s : State) (hs : SequencerInv s) (hb : s.busy = true) (j : Fin 16) :
    (workCycle s).sk.get j =
      if s.pendOp = .loadkey ∧ s.rc.toNat < 16 ∧ j.val < s.rc.toNat then (keySchedule s.opnd).get j
      else s.sk.get j := by
  by_cases hcycle : s.pendOp = .loadkey ∧ s.rc.toNat < 16
  · obtain ⟨ho, hrc⟩ := hcycle
    obtain ⟨hcount, hstay⟩ := workCycle_counts s 0 (.inl ⟨ho, hrc⟩)
    split_ifs with hj
    · obtain ⟨-, -, hlt⟩ := hj
      obtain ⟨-, -, hop, -, hopnd, -, -, -, -, -, -, hbusy, -⟩ := workCycle_frame s
      obtain ⟨hkey, -⟩ := sequencerInv_workCycle s hs hb
      obtain ⟨-, hprogress⟩ := hkey (hbusy.trans hb) (hop.trans ho)
      have hne : (workCycle s).rc ≠ 0 := by
        intro h0
        simp [h0] at hcount
      obtain ⟨-, hwritten⟩ := hprogress hne
      rw [hopnd, hcount, Nat.add_sub_cancel] at hwritten
      exact hwritten j hlt
    · exact hstay j fun _ => Nat.le_of_not_lt fun hlt => hj ⟨ho, hrc, hlt⟩
  · rw [if_neg fun ⟨ho, hrc, _⟩ => hcycle ⟨ho, hrc⟩]
    obtain e | ⟨-, -, e⟩ | ⟨i, ho, hrc, hi, -⟩ | ⟨-, -, e⟩ | ⟨i, -, -, e⟩ | ⟨i, -, -, e⟩ := workCycle_cases s
    case inr.inr.inl => exact absurd ⟨ho, by omega⟩ hcycle
    all_goals simp [e]

theorem sameToHost_workCycle {s s' : State} (h : SameToHost s s') (hs : SequencerInv s) (hs' : SequencerInv s')
    (hb : s.busy = true) : SameToHost (workCycle s) (workCycle s') := by
  obtain ⟨hport, hvalid, hlatch⟩ := (sameToHost_iff s s').mp h
  obtain ⟨hop, hidx, hopnd, hrc, hwindow⟩ := (latchView_eq_iff s s').mp (hlatch hb)
  have hframe := workCycle_frame s
  have hframe' := workCycle_frame s'
  refine (sameToHost_iff _ _).mpr ⟨by rw [portView_workCycle, portView_workCycle, hport], fun j hj => ?_, fun _ => ?_⟩
  · rw [workCycle_get s hs hb j, workCycle_get s' hs' ((busy_eq_of_portView hport).symm.trans hb) j, hop, hrc, hopnd,
      hvalid j (by simpa [hframe] using hj)]
  · simp [latchView_eq_iff, hframe, hframe', hop, hidx, hopnd, hwindow, workCycle_rc_congr hop hrc]

theorem sameToHost_countCycle {s s' : State} (h : SameToHost s s') : SameToHost (countCycle s) (countCycle s') := by
  obtain ⟨hport, hvalid, hlatch⟩ := (sameToHost_iff s s').mp h
  refine (sameToHost_iff _ _).mpr ⟨hport, hvalid, fun hb => ?_⟩
  obtain ⟨hop, hidx, hopnd, hrc, hwindow⟩ := (latchView_eq_iff s s').mp (hlatch hb)
  exact (latchView_eq_iff _ _).mpr ⟨hop, hidx, hopnd, hrc, congrArg (· - 1) hwindow⟩

theorem sameToHost_engineTick {s s' : State} (h : SameToHost s s') (hs : EngineInv s) (hs' : EngineInv s')
    (hb : s.busy = true) : SameToHost (engineTick s) (engineTick s') := by
  obtain ⟨hport, -, hlatch⟩ := (sameToHost_iff s s').mp h
  obtain ⟨-, -, -, -, hwindow⟩ := (latchView_eq_iff s s').mp (hlatch hb)
  obtain ⟨-, hseq⟩ := id hs
  obtain ⟨-, hseq'⟩ := hs'
  have hb' : s'.busy = true := (busy_eq_of_portView hport).symm.trans hb
  by_cases hw : s.window ≤ 1
  · rw [engineTick_last s hb hw, engineTick_last s' hb' (hwindow ▸ hw)]
    exact sameToHost_of_withoutWork rfl (sameToHost_completion h hs hb) (endCycle_eq_completion s hb hseq)
      (endCycle_eq_completion s' hb' hseq')
  · rw [engineTick_work s hb (by omega), engineTick_work s' hb' (by omega)]
    exact sameToHost_workCycle (sameToHost_countCycle h) hseq hseq' hb

/-! ### A step -/

theorem engineInv_hostAccess (a : Access) (s u : State) (h : EngineInv s) (ha : hostAccess a s = .next u) :
    EngineInv u :=
  have ⟨hstatus, hseq⟩ := h
  ⟨statusInv_hostAccess a s u hstatus ha, sequencerInv_hostAccess a s u hseq ha⟩

theorem sameOutcome_complete {s s' : State} (h : SameToHost s s') (hs : EngineInv s) :
    SameOutcome (complete s) (complete s') := by
  have hport := portView_eq_of_sameToHost h
  have hbusy := busy_eq_of_portView hport
  cases hb : s.busy with
  | true => exact ⟨_, _, complete_busy s hb, complete_busy s' (hbusy.symm.trans hb), sameToHost_completion h hs hb⟩
  | false => exact ⟨_, _, complete_idle s hb, complete_idle s' (hbusy.symm.trans hb), h⟩

theorem sameOutcome_engineTick_access (x : Access) {s s' : State} (h : SameToHost s s') (hs : EngineInv s)
    (hs' : EngineInv s') (hb : s.busy = true) : SameOutcome (clockCycle (some x) s) (clockCycle (some x) s') := by
  have hport := portView_eq_of_sameToHost h
  obtain ⟨u, u', hu, hu', huu⟩ := sameOutcome_hostAccess x h
  obtain ⟨hub, -⟩ := hostAccess_inFlight x s u hu hb
  exact ⟨_, _, clockCycle_access_busy x s u hb hu,
    clockCycle_access_busy x s' u' ((busy_eq_of_portView hport).symm.trans hb) hu',
    sameToHost_engineTick huu (engineInv_hostAccess x s u hs hu) (engineInv_hostAccess x s' u' hs' hu') hub⟩

theorem sameOutcome_clockCycle (a : Option Access) {s s' : State} (h : SameToHost s s') (hs : EngineInv s)
    (hs' : EngineInv s') : SameOutcome (clockCycle a s) (clockCycle a s') := by
  have hport := portView_eq_of_sameToHost h
  have hbusy := busy_eq_of_portView hport
  cases hb : s.busy with
  | true =>
    have hb' := hbusy.symm.trans hb
    cases a with
    | none => exact ⟨_, _, clockCycle_none_busy s hb, clockCycle_none_busy s' hb', sameToHost_engineTick h hs hs' hb⟩
    | some x => exact sameOutcome_engineTick_access x h hs hs' hb
  | false =>
    have hb' := hbusy.symm.trans hb
    cases a with
    | none => exact ⟨_, _, clockCycle_none_idle s hb, clockCycle_none_idle s' hb', h⟩
    | some x =>
      rw [clockCycle_access_idle x s hb, clockCycle_access_idle x s' hb']
      exact sameOutcome_hostAccess x h

/-- The fields that are not DESCORE's are the same in the two states, so a reset leaves them equal. -/
theorem resetRegs_of_sameToHost {s s' : State} (h : SameToHost s s') : resetRegs s = resetRegs s' := by
  obtain ⟨⟨-, -, -, -, -, -, -, -, -, hlat, hrst, hrdata, hinputs⟩, -⟩ := h
  exact resetRegs_congr s s' hlat hrst hrdata hinputs

theorem sameOutcome_takeLive (e : Input) {s s' : State} (h : SameToHost s s') (hs : EngineInv s) (hs' : EngineInv s') :
    SameOutcome (takeLive e s) (takeLive e s') := by
  have hreset := resetRegs_of_sameToHost h
  cases e with
  | host a => exact sameOutcome_hostAccess a h
  | complete => exact sameOutcome_complete h hs
  | clock a => exact sameOutcome_clockCycle a h hs hs'
  | reset => exact ⟨_, _, rfl, rfl, hreset ▸ sameToHost_refl _⟩
  | rst level =>
    cases level with
    | true =>
      have hrise : drivePin true s = drivePin true s' := congrArg (fun v => { v with rst := true }) hreset
      exact ⟨_, _, rfl, rfl, hrise ▸ sameToHost_refl _⟩
    | false => exact ⟨_, _, rfl, rfl, h⟩

theorem sameToHost_heldInReset (e : Input) {s s' : State} (h : SameToHost s s') :
    SameToHost (heldInReset e s) (heldInReset e s') := by
  obtain ⟨⟨-, -, -, -, -, -, -, -, -, -, hrst, hrdata, -⟩, -⟩ := id h
  have hpin : pinAfter e s = pinAfter e s' := by simp [pinAfter, hrst]
  have hread : readDataInReset e s = readDataInReset e s' := by simp [readDataInReset, hrdata]
  rw [heldInReset, heldInReset, hpin, hread, resetRegs_of_sameToHost h]
  exact sameToHost_refl _

theorem sameToHost_withInputs (rest : List Input) {s s' : State} (h : SameToHost s s') :
    SameToHost (withInputs rest s) (withInputs rest s') :=
  sameToHost_of_port h (congrArg (withInputs rest) (portView_eq_of_sameToHost h)) rfl rfl rfl rfl rfl rfl

theorem sameOutcome_step {s s' : State} (h : SameToHost s s') (hs : EngineInv s) (hs' : EngineInv s') :
    SameOutcome (step s) (step s') := by
  obtain ⟨⟨-, -, -, -, -, -, -, -, -, -, hrst, -, hinputs⟩, -⟩ := id h
  cases hi : s.inputs with
  | nil =>
    rw [step_noInput s hi, step_noInput s' (hinputs.symm.trans hi), takeNoInput, takeNoInput, ← hrst]
    split
    · exact ⟨_, _, rfl, rfl, resetRegs_of_sameToHost h ▸ sameToHost_refl _⟩
    · exact sameOutcome_complete h hs
  | cons e rest =>
    have hrest := sameToHost_withInputs rest h
    rw [step_input s e rest hi, step_input s' e rest (hinputs.symm.trans hi), takeInput, takeInput, withInputs_rst,
      withInputs_rst, ← hrst]
    split
    · exact ⟨_, _, rfl, rfl, sameToHost_heldInReset e hrest⟩
    · exact sameOutcome_takeLive e hrest hs hs'

/-- Settles O42: every turn of a step, on two states that look the same, goes on to states that do. -/
theorem unspecifiedContentsAreUnobservable : Obligations.UnspecifiedContentsAreUnobservable := by
  rintro s s' t t' ⟨hstatus, -, hseq⟩ ⟨hstatus', -, hseq'⟩ h ht ht'
  obtain ⟨u, u', hu, hu', huu⟩ := sameOutcome_step h ⟨hstatus, hseq⟩ ⟨hstatus', hseq'⟩
  rwa [Host.Outcome.next.inj (ht.symm.trans hu), Host.Outcome.next.inj (ht'.symm.trans hu')]

end Sys2Proof.Proofs

/-! SUPPORT. Sitting 9, the datapath: permute and SBOX as functions, and the round trip and the complement of CIPHER. -/

namespace Sys2Proof.Proofs

open Sys2Proof Sys2Proof.Machine Sys2Proof.Laws

/-! ### permute as a function of its value (40_bit_permuter.md R102, R103) -/

@[simp] theorem desPos_xor {n : Nat} (a b : BitVec n) (p : Nat) : desPos (a ^^^ b) p = (desPos a p ^^ desPos b p) :=
  BitVec.getLsbD_xor

@[simp] theorem desPos_zero (n p : Nat) : desPos (0#n) p = false := BitVec.getLsbD_zero

/-- A position of the value is complemented with it. -/
theorem desPos_not {n : Nat} (a : BitVec n) {p : Nat} (hp : 1 ≤ p ∧ p ≤ n) : desPos (~~~a) p = !desPos a p := by
  have hlt : n - p < n := by omega
  simp [desPos, hlt]

theorem permute_xor {n : Nat} (m : Nat) (a b : BitVec n) (table : List Nat) :
    permute m (a ^^^ b) table = permute m a table ^^^ permute m b table := by
  refine BitVec.eq_of_getLsbD_eq fun i hi => ?_
  rw [BitVec.getLsbD_xor, getLsbD_permute _ _ _ hi, getLsbD_permute _ _ _ hi, getLsbD_permute _ _ _ hi]
  cases table.reverse[i]? <;> simp

theorem permute_zero (n m : Nat) (table : List Nat) : permute m (0 : BitVec n) table = 0 := by
  refine BitVec.eq_of_getLsbD_eq fun i hi => ?_
  rw [getLsbD_permute _ _ _ hi]
  cases table.reverse[i]? <;> simp

theorem tableOk_iff (n m : Nat) (table : List Nat) :
    tableOk n m table = true ↔ table.length = m ∧ ∀ t ∈ table, 1 ≤ t ∧ t ≤ n := by
  simp [tableOk]

/-- A table that meets its widths selects a bit of the value at every place of the result. -/
theorem permute_not {n m : Nat} (a : BitVec n) {table : List Nat} (h : tableOk n m table = true) :
    permute m (~~~a) table = ~~~(permute m a table) := by
  obtain ⟨hlen, hrange⟩ := (tableOk_iff n m table).mp h
  refine eq_of_desPos_eq fun q hq => ?_
  have hq' : q < table.length := by omega
  rw [desPos_permute _ _ hlen q hq', desPos_not _ (hrange _ (List.getElem_mem hq')),
    desPos_not _ (by omega), desPos_permute _ _ hlen q hq']

/-- Values that agree at the positions of the table are permuted alike. -/
theorem permute_congr {n m : Nat} {a b : BitVec n} {table : List Nat} (h : ∀ t ∈ table, desPos a t = desPos b t) :
    permute m a table = permute m b table := by
  induction table using List.reverseRecOn with
  | nil => rfl
  | append_singleton table t ih =>
    rw [permute_append_entry, permute_append_entry, permuteStep, permuteStep,
      ih fun u hu => h u (List.mem_append_left _ hu), h t (by simp)]

/-- Settles O44: bit by bit, each bit of the result being a bit of the value. -/
theorem permuteIsLinear : Obligations.PermuteIsLinear := fun n m a b table =>
  ⟨permute_xor m a b table, permute_zero n m table, permute_not a⟩

theorem permute_tableFP_tableIP (x : Word) : permute 64 (permute 64 x tableFP) tableIP = x := by
  rw [← inverseTable_tableFP]
  exact permute_inverseTable (by decide) x

theorem permute_tableIP_tableFP (x : Word) : permute 64 (permute 64 x tableIP) tableFP = x := by
  rw [← inverseTable_tableIP]
  exact permute_inverseTable (by decide) x

/-- Settles O46: each of the two tables is the inverse table of the other. -/
theorem finalPermutationInvertsTheInitialOne : Obligations.FinalPermutationInvertsTheInitialOne := fun x =>
  ⟨permute_tableIP_tableFP x, permute_tableFP_tableIP x⟩

/-- Settles O47: the tables, entry by entry. -/
theorem tablesMeetTheirShapes : Obligations.TablesMeetTheirShapes :=
  ⟨by decide, by decide, by decide, by decide, by decide, by decide, by decide, by decide, by decide, by decide⟩

/-! ### SBOX nibble by nibble (42_sbox.md R141 to R143) -/

/-- A pass of R141's loop puts the new nibble at the low end. -/
theorem sboxStep_lowNibble (x : BitVec 48) (out : BitVec 32) (g : Nat) :
    (sboxStep x out g).extractLsb' 0 4 = sboxNibble x g := by
  refine BitVec.eq_of_getLsbD_eq fun i hi => ?_
  simp [sboxStep, hi]
  omega

/-- A pass of R141's loop moves every nibble up by one place. -/
theorem sboxStep_highNibble (x : BitVec 48) (out : BitVec 32) (g j : Nat) (hj : j < 7) :
    (sboxStep x out g).extractLsb' (4 * (j + 1)) 4 = out.extractLsb' (4 * j) 4 := by
  refine BitVec.eq_of_getLsbD_eq fun i hi => ?_
  have h32 : 4 * (j + 1) + i < 32 := by omega
  have hpos : 4 * (j + 1) + i - 4 = 4 * j + i := by omega
  have hout : out.getLsbD (4 * j + i) = out[4 * j + i] := BitVec.getLsbD_eq_getElem (by omega)
  have hnew : (sboxNibble x g).getLsbD (4 * (j + 1) + i) = false := BitVec.getLsbD_of_ge _ _ (by omega)
  have hlow : ¬4 * (j + 1) + i < 4 := by omega
  simp [sboxStep, hi, h32, hpos, hlow, hout, hnew]

/-- Nibble `j` from the low end is that of the group `j` places before the last one. -/
theorem foldl_sboxStep_nibble (x : BitVec 48) (gs : List Nat) (j : Nat) (hj : j < gs.length) (h8 : j < 8) :
    (gs.foldl (sboxStep x) 0).extractLsb' (4 * j) 4 = sboxNibble x (gs.reverse[j]'(by simpa using hj)) := by
  induction gs using List.reverseRecOn generalizing j with
  | nil => simp at hj
  | append_singleton gs g ih =>
    cases j with
    | zero => simp [sboxStep_lowNibble]
    | succ j =>
      have hj' : j < gs.length := by simpa using hj
      rw [List.foldl_append, List.foldl_cons, List.foldl_nil, sboxStep_highNibble _ _ _ _ (by omega),
        ih j hj' (by omega)]
      simp

/-- Output nibble `g` of SBOX, group 0 at the high end, is that of chunk `g` (42_sbox.md R153). -/
theorem sbox_nibble (x : BitVec 48) (g : Fin 8) : (sbox x).extractLsb' (28 - 4 * g.val) 4 = sboxNibble x g.val := by
  have hpos : 28 - 4 * g.val = 4 * (7 - g.val) := by omega
  have hgroup : [0, 1, 2, 3, 4, 5, 6, 7].reverse[7 - g.val]'(by simp; omega) = g.val := by
    revert g
    decide
  rw [hpos, sbox, foldl_sboxStep_nibble x _ (7 - g.val) (by simp; omega) (by omega), hgroup]

/-- The nibble of a group as an entry of its table at the row and column of the chunk (42_sbox.md R143). -/
theorem sboxNibble_eq (x : BitVec 48) (g : Fin 8) :
    sboxNibble x g.val = BitVec.ofNat 4 ((sboxTables.getD g.val []).getD
      ((2 * (x.getLsbD (47 - 6 * g.val)).toNat + (x.getLsbD (42 - 6 * g.val)).toNat) * 16 +
        (x.extractLsb' (43 - 6 * g.val) 4).toNat) 0) := by
  have hlow : (sboxChunk x g.val).getLsbD 0 = x.getLsbD (42 - 6 * g.val) := by simp [sboxChunk]
  have hhigh : (sboxChunk x g.val).getLsbD 5 = x.getLsbD (47 - 6 * g.val) := by
    have hpos : 42 - 6 * g.val + 5 = 47 - 6 * g.val := by omega
    simp [sboxChunk, hpos]
  have hmiddle : (sboxChunk x g.val).extractLsb' 1 4 = x.extractLsb' (43 - 6 * g.val) 4 := by
    have hpos : 42 - 6 * g.val + 1 = 43 - 6 * g.val := by omega
    refine BitVec.eq_of_getLsbD_eq fun i hi => ?_
    have hi' : 1 + i < 6 := by omega
    simp [sboxChunk, hi, hi', ← hpos, Nat.add_assoc]
  rw [sboxNibble, sboxLookup, sboxRow, sboxColumn, hlow, hhigh, hmiddle]

/-- SBOX of 0 has ones in it, so it is no linear map. -/
theorem sbox_zero_ne_zero : sbox 0 ≠ 0 := by
  intro h
  have hnibble := sbox_nibble 0 0
  rw [h] at hnibble
  revert hnibble
  decide

/-- Settles O52: the nibble is a function of its chunk, and a linear map would send 0 to 0. -/
theorem sboxLanesAreIndependent : Obligations.SboxLanesAreIndependent := by
  refine ⟨fun x g => (sbox_nibble x g).trans (sboxNibble_eq x g), fun x y g h => ?lanes, 0, 0, ?nonlinear⟩
  case lanes =>
    have hchunk : sboxChunk x g.val = sboxChunk y g.val := h
    rw [sbox_nibble, sbox_nibble, sboxNibble, sboxNibble, hchunk]
  case nonlinear =>
    rw [BitVec.xor_self, BitVec.xor_self]
    exact sbox_zero_ne_zero

/-! ### The key schedule (41_key_schedule.md R111, R115, R120) -/

/-- The subkeys depend on the key through C0 and D0 only. -/
theorem keySchedule_congr {k k' : Word} (h : splitKey k = splitKey k') : keySchedule k = keySchedule k' := by
  unfold keySchedule
  simp only [h]

/-- PC-1 selects bits under the mask only. -/
theorem splitKey_congr {k k' : Word} (h : k &&& 0xFEFEFEFEFEFEFEFE = k' &&& 0xFEFEFEFEFEFEFEFE) :
    splitKey k = splitKey k' := by
  have hmask : ∀ t ∈ tablePC1, desPos (0xFEFEFEFEFEFEFEFE : Word) t = true := by decide
  have hbits (v : Word) (t : Nat) (ht : t ∈ tablePC1) : desPos (v &&& 0xFEFEFEFEFEFEFEFE) t = desPos v t := by
    rw [desPos, BitVec.getLsbD_and]
    exact (congrArg (_ && ·) (hmask t ht)).trans (Bool.and_true _)
  have hperm : permute 56 k tablePC1 = permute 56 k' tablePC1 :=
    permute_congr fun t ht => by rw [← hbits k t ht, h, hbits k' t ht]
  rw [splitKey, splitKey, hperm]

/-- Settles O50: every position of PC-1 is under the mask, and LOADKEY has no key requirement. -/
theorem parityBitsDoNotMatter : Obligations.ParityBitsDoNotMatter :=
  ⟨by decide, fun _ _ h => keySchedule_congr (splitKey_congr h),
    fun s hb => ⟨_, exec_ready .loadkey s hb rfl, rfl, rfl, rfl⟩⟩

/-! #### Rotations add up -/

theorem rotateLeft_rotateLeft {w : Nat} (hw : 0 < w) (x : BitVec w) (a b : Nat) :
    (x.rotateLeft a).rotateLeft b = x.rotateLeft (a + b) := by
  refine BitVec.eq_of_getMsbD_eq fun i hi => ?_
  simp [BitVec.getMsbD_rotateLeft, hi, Nat.mod_lt _ hw, Nat.add_assoc]

theorem rotateLeft_zero {w : Nat} (x : BitVec w) : x.rotateLeft 0 = x := by
  refine BitVec.eq_of_getMsbD_eq fun i hi => ?_
  simp [BitVec.getMsbD_rotateLeft, hi, Nat.mod_eq_of_lt hi]

/-- Rounds of R115 in a row rotate the halves by the sum of their shifts. -/
theorem foldl_rotateHalves (h : KeyHalves) (shifts : List Nat) (hs : ∀ s ∈ shifts, s < 28) :
    shifts.foldl rotateHalves h = ⟨h.c.rotateLeft shifts.sum, h.d.rotateLeft shifts.sum⟩ := by
  induction shifts generalizing h with
  | nil => rw [List.foldl_nil, List.sum_nil, rotateLeft_zero, rotateLeft_zero]
  | cons s rest ih =>
    rw [List.foldl_cons, ih _ fun t ht => hs t (List.mem_cons_of_mem _ ht), rotateHalves,
      rotl28_eq_rotateLeft _ (hs s (by simp)), rotl28_eq_rotateLeft _ (hs s (by simp)),
      rotateLeft_rotateLeft (by decide), rotateLeft_rotateLeft (by decide), List.sum_cons]

/-- The halves after `k` rounds are C0 and D0 rotated by the shifts so far. -/
theorem halvesAfter_eq_rotateLeft (key : Word) (k : Nat) : halvesAfter key k =
    ⟨(splitKey key).c.rotateLeft (shiftSchedule.take k).sum,
      (splitKey key).d.rotateLeft (shiftSchedule.take k).sum⟩ := by
  have hshifts : ∀ s ∈ shiftSchedule, s < 28 := by decide
  exact foldl_rotateHalves _ _ fun s hs => hshifts s (List.mem_of_mem_take hs)

/-- A half of all zeros or all ones stays as it is under every rotation. -/
theorem rotateLeft_constant {x : KeyHalf} (h : x = 0 ∨ x = 0xFFFFFFF) (r : Nat) : x.rotateLeft r = x := by
  obtain rfl | rfl : x = 0 ∨ x = BitVec.allOnes 28 := h
  all_goals
    refine BitVec.eq_of_getMsbD_eq fun i hi => ?_
    simp only [BitVec.getMsbD_rotateLeft, BitVec.ofNat_eq_ofNat, BitVec.getMsbD_zero, BitVec.getMsbD_allOnes, hi,
      Nat.mod_lt _ (show 28 > 0 by decide), decide_true, Bool.and_true, Bool.and_false]

theorem halvesAfter_constant {key : Word} (hc : (splitKey key).c = 0 ∨ (splitKey key).c = 0xFFFFFFF)
    (hd : (splitKey key).d = 0 ∨ (splitKey key).d = 0xFFFFFFF) (k : Nat) : halvesAfter key k = splitKey key := by
  rw [halvesAfter_eq_rotateLeft, rotateLeft_constant hc, rotateLeft_constant hd]

/-- The shifts of all rounds add up to the width of a half (41_key_schedule.md R113, R120). -/
theorem halvesAfter_sixteen (key : Word) : halvesAfter key 16 = splitKey key := by
  have hfull (x : KeyHalf) : x.rotateLeft (shiftSchedule.take 16).sum = x := by
    rw [← BitVec.rotateLeft_mod_eq_rotateLeft, show (shiftSchedule.take 16).sum % 28 = 0 by decide,
      rotateLeft_zero]
  rw [halvesAfter_eq_rotateLeft, hfull, hfull]

/-- The four keys of R120 and their halves (41_key_schedule.md). The kernel evaluates the 56 passes of PC-1, which go beyond the elaborator's recursion depth. -/
theorem splitKey_weakKeys :
    splitKey 0x0101010101010101 = ⟨0, 0⟩ ∧ splitKey 0xFEFEFEFEFEFEFEFE = ⟨0xFFFFFFF, 0xFFFFFFF⟩ ∧
    splitKey 0xE0E0E0E0F1F1F1F1 = ⟨0xFFFFFFF, 0⟩ ∧ splitKey 0x1F1F1F1F0E0E0E0E = ⟨0, 0xFFFFFFF⟩ := by
  decide +kernel

theorem weakKeys_constant :
    ∀ key ∈ [0x0101010101010101#64, 0xFEFEFEFEFEFEFEFE#64, 0xE0E0E0E0F1F1F1F1#64, 0x1F1F1F1F0E0E0E0E#64],
    ((splitKey key).c = 0 ∨ (splitKey key).c = 0xFFFFFFF) ∧ ((splitKey key).d = 0 ∨ (splitKey key).d = 0xFFFFFFF) := by
  obtain ⟨h0, h1, h2, h3⟩ := splitKey_weakKeys
  intro key hkey
  simp only [List.mem_cons, List.not_mem_nil, or_false] at hkey
  obtain rfl | rfl | rfl | rfl := hkey
  · exact ⟨.inl (congrArg KeyHalves.c h0), .inl (congrArg KeyHalves.d h0)⟩
  · exact ⟨.inr (congrArg KeyHalves.c h1), .inr (congrArg KeyHalves.d h1)⟩
  · exact ⟨.inr (congrArg KeyHalves.c h2), .inl (congrArg KeyHalves.d h2)⟩
  · exact ⟨.inl (congrArg KeyHalves.c h3), .inr (congrArg KeyHalves.d h3)⟩

/-- Settles O51: the rotations add up to a whole turn, and leave a constant half as it is. -/
theorem keyHalvesReturnAfterSixteenRounds : Obligations.KeyHalvesReturnAfterSixteenRounds :=
  ⟨halvesAfter_sixteen, fun _ _ => keySchedule_congr,
    fun key hc hd i j => by
      rw [keySchedule_get, keySchedule_get, halvesAfter_constant hc hd, halvesAfter_constant hc hd],
    weakKeys_constant⟩

/-! ### The rounds as a list of subkeys (44_block_cipher.md R174) -/

/-- The loop of R174 is one round step after another, over the subkeys in the order given. -/
theorem runRounds_eq_foldl (ks : SubkeySet) (ord : Fin 16 → Fin 16) (rounds : List (Fin 16)) (h : Halves) :
    runRounds ks ord rounds h = (rounds.map fun i => ks.get (ord i)).foldl roundStep h := by
  induction rounds generalizing h with
  | nil => rfl
  | cons i rest ih => rw [runRounds_cons, ih, List.map_cons, List.foldl_cons]

/-- The subkeys of the sixteen rounds, in the order given. -/
def roundKeys (ks : SubkeySet) (ord : Fin 16 → Fin 16) : List Subkey := roundNumbers.map fun i => ks.get (ord i)

theorem cipher_eq_foldl (block : Word) (ks : SubkeySet) (ord : Fin 16 → Fin 16) :
    cipher block ks ord = joinBlock ((roundKeys ks ord).foldl roundStep (splitBlock block)) := by
  rw [cipher, runRounds_eq_foldl, roundKeys]

/-- DECRYPT's order is ENCRYPT's from the last subkey to the first (44_block_cipher.md R176). -/
theorem roundKeys_orderRev (ks : SubkeySet) : roundKeys ks orderRev = (roundKeys ks orderFwd).reverse := rfl

/-! #### Undoing the rounds -/

/-- The halves exchanged. -/
def swapHalves (h : Halves) : Halves := ⟨h.r, h.l⟩

/-- A round on the exchanged halves of its own result gives the exchanged halves before it: the same `f` is XORed on twice. -/
theorem roundStep_swapHalves_roundStep (h : Halves) (k : Subkey) :
    roundStep (swapHalves (roundStep h k)) k = swapHalves h := by
  simp [roundStep, swapHalves]

/-- The same rounds in reverse order undo a run of rounds, on exchanged halves. -/
theorem foldl_reverse_roundStep (keys : List Subkey) (h : Halves) :
    keys.reverse.foldl roundStep (swapHalves (keys.foldl roundStep h)) = swapHalves h := by
  induction keys generalizing h with
  | nil => rfl
  | cons k rest ih =>
    rw [List.foldl_cons, List.reverse_cons, List.foldl_append, ih, List.foldl_cons, List.foldl_nil,
      roundStep_swapHalves_roundStep]

/-- The un-swap of R175: splitting a joined block gives the halves exchanged, since IP undoes FP. -/
theorem splitBlock_joinBlock (h : Halves) : splitBlock (joinBlock h) = swapHalves h := by
  simp (disch := decide) only [splitBlock, joinBlock, permute_tableFP_tableIP, swapHalves,
    BitVec.extractLsb'_append_eq_of_le, BitVec.extractLsb'_append_eq_of_add_le, Nat.sub_self,
    BitVec.extractLsb'_eq_self]

theorem joinBlock_swapHalves_splitBlock (block : Word) : joinBlock (swapHalves (splitBlock block)) = block := by
  have hip (v : Word) : v.extractLsb' 32 32 ++ v.extractLsb' 0 32 = v :=
    (BitVec.extractLsb'_append_extractLsb'_eq_extractLsb' rfl).trans BitVec.extractLsb'_eq_self
  rw [joinBlock, swapHalves, splitBlock, hip, permute_tableIP_tableFP]

/-- CIPHER under the same subkeys in reverse order undoes CIPHER (44_block_cipher.md R180). -/
theorem cipher_cipher_of_reverse (block : Word) (ks : SubkeySet) (ord ord' : Fin 16 → Fin 16)
    (h : roundKeys ks ord' = (roundKeys ks ord).reverse) : cipher (cipher block ks ord) ks ord' = block := by
  rw [cipher_eq_foldl, cipher_eq_foldl, splitBlock_joinBlock, h, foldl_reverse_roundStep,
    joinBlock_swapHalves_splitBlock]

/-- Settles O54: each of the two orders is the other reversed. -/
theorem decryptionUndoesEncryption : Obligations.DecryptionUndoesEncryption :=
  have hforward (ks : SubkeySet) : roundKeys ks orderFwd = (roundKeys ks orderRev).reverse := rfl
  ⟨fun p _ => cipher_cipher_of_reverse p _ _ _ (roundKeys_orderRev _),
    fun p ks => cipher_cipher_of_reverse p ks _ _ (roundKeys_orderRev ks),
    fun p ks => cipher_cipher_of_reverse p ks _ _ (hforward ks)⟩

/-- CIPHER depends on the subkey set through the subkeys of its rounds. -/
theorem cipher_congr (block : Word) {ks ks' : SubkeySet} {ord ord' : Fin 16 → Fin 16}
    (h : ∀ i, ks'.get (ord' i) = ks.get (ord i)) : cipher block ks' ord' = cipher block ks ord := by
  have hkeys : roundKeys ks' ord' = roundKeys ks ord := List.map_congr_left fun i _ => h i
  rw [cipher_eq_foldl, cipher_eq_foldl, hkeys]

/-- Settles O55: the two read the same subkey in every round. -/
theorem hostReversalEqualsEngineReversal : Obligations.HostReversalEqualsEngineReversal := by
  refine ⟨fun b ks ks' h => cipher_congr b h, fun s s' hb hb' _ _ hopnd h => ?_⟩
  refine ⟨_, _, exec_inFlight .decrypt s hb, exec_inFlight .encrypt s' hb', ?_⟩
  exact (cipher_congr s'.opnd h).trans (congrArg (cipher · s.sk orderRev) hopnd.symm)

/-! #### The complement (44_block_cipher.md R183) -/

/-- Both halves complemented. -/
def notHalves (h : Halves) : Halves := ⟨~~~h.l, ~~~h.r⟩

/-- `f` takes the XOR of two complemented values, which is that of the values. -/
theorem feistel_not (r : Half) (k : Subkey) : feistel (~~~r) (~~~k) = feistel r k := by
  rw [feistel, feistel, permute_not r (table := tableE) (by decide), ← BitVec.not_xor_left, ← BitVec.not_xor_right,
    BitVec.not_not]

theorem roundStep_not (h : Halves) (k : Subkey) : roundStep (notHalves h) (~~~k) = notHalves (roundStep h k) := by
  simp [roundStep, notHalves, feistel_not, BitVec.not_xor_left]

theorem foldl_roundStep_not (keys : List Subkey) (h : Halves) :
    (keys.map (~~~·)).foldl roundStep (notHalves h) = notHalves (keys.foldl roundStep h) := by
  induction keys generalizing h with
  | nil => rfl
  | cons k rest ih => rw [List.map_cons, List.foldl_cons, List.foldl_cons, roundStep_not, ih]

theorem extractLsb'_not {w : Nat} (x : BitVec w) {start len : Nat} (h : start + len ≤ w) :
    (~~~x).extractLsb' start len = ~~~(x.extractLsb' start len) := by
  refine BitVec.eq_of_getLsbD_eq fun i hi => ?_
  have hlt : start + i < w := by omega
  simp [hi, hlt]

theorem splitBlock_not (block : Word) : splitBlock (~~~block) = notHalves (splitBlock block) := by
  rw [splitBlock, permute_not block (table := tableIP) (by decide), extractLsb'_not _ (by decide),
    extractLsb'_not _ (by decide)]
  rfl

theorem joinBlock_not (h : Halves) : joinBlock (notHalves h) = ~~~(joinBlock h) := by
  rw [joinBlock, joinBlock, ← permute_not _ (table := tableFP) (by decide), BitVec.not_append]
  rfl

theorem cipher_not (block : Word) {ks ks' : SubkeySet} (ord : Fin 16 → Fin 16) (h : ∀ i, ks'.get i = ~~~(ks.get i)) :
    cipher (~~~block) ks' ord = ~~~(cipher block ks ord) := by
  have hkeys : roundKeys ks' ord = (roundKeys ks ord).map (~~~·) := by
    rw [roundKeys, roundKeys, List.map_map]
    exact List.map_congr_left fun i _ => h (ord i)
  rw [cipher_eq_foldl, cipher_eq_foldl, hkeys, splitBlock_not, foldl_roundStep_not, joinBlock_not]

theorem rotateLeft_not {w : Nat} (x : BitVec w) (r : Nat) : (~~~x).rotateLeft r = ~~~(x.rotateLeft r) := by
  refine BitVec.eq_of_getMsbD_eq fun i hi => ?_
  simp [BitVec.getMsbD_rotateLeft, hi, Nat.mod_lt _ (Nat.zero_lt_of_lt hi)]

theorem splitKey_not (key : Word) : splitKey (~~~key) = ⟨~~~(splitKey key).c, ~~~(splitKey key).d⟩ := by
  rw [splitKey, permute_not key (table := tablePC1) (by decide), extractLsb'_not _ (by decide),
    extractLsb'_not _ (by decide)]
  rfl

theorem compressHalves_not (h : KeyHalves) : compressHalves ⟨~~~h.c, ~~~h.d⟩ = ~~~(compressHalves h) := by
  rw [compressHalves, compressHalves, ← permute_not _ (table := tablePC2) (by decide), BitVec.not_append]

/-- Every subkey of the complemented key is the complement of the key's. -/
theorem keySchedule_not (key : Word) (i : Fin 16) : (keySchedule (~~~key)).get i = ~~~((keySchedule key).get i) := by
  rw [keySchedule_get, keySchedule_get, halvesAfter_eq_rotateLeft, halvesAfter_eq_rotateLeft, splitKey_not,
    rotateLeft_not, rotateLeft_not, ← compressHalves_not]

/-- Settles O56: the complements cancel before SBOX and pass through everything else. -/
theorem complementingInputsComplementsTheOutput : Obligations.ComplementingInputsComplementsTheOutput :=
  ⟨fun p _ _ ord h => cipher_not p ord h, keySchedule_not, fun p k => cipher_not p orderFwd (keySchedule_not k)⟩

end Sys2Proof.Proofs

/-! SUPPORT. Sitting 9, commands from issue to completion, and the host's assembly. -/

namespace Sys2Proof.Proofs

open Sys2Proof Sys2Proof.Machine Sys2Proof.Laws

/-! ### From the CMD write to the completion -/

theorem completion_accept (i : Instr) (s : State) : completion (accept i s) = finish (effectOf i (accept i s)) :=
  completion_of_pending (pending_accept i s)

/-- The low 48 bits of SUBKEY_IO's operand are SUBKEY_IO (45_interface_commands.md R195). -/
theorem operand_wrsubkey (idx : SubkeyIdx) (s : State) : (operand (.wrsubkey idx) s).extractLsb' 0 48 = s.subkeyIo := by
  refine BitVec.eq_of_getLsbD_eq fun i hi => ?_
  have hi64 : i < 64 := by omega
  simp [operand, hi, hi64]

/-- Settles O17: the acceptance and the completion of the accepted command, one destination for each command. -/
theorem commandsRunFromIssueToCompletion : Obligations.CommandsRunFromIssueToCompletion := by
  intro s i rest hr hb hk h
  obtain ⟨haccept, hcomplete⟩ := stepsTo_accept_complete s i rest hr hb hk h
  rw [completion_accept] at hcomplete
  refine ⟨_, _, haccept, hcomplete, ?_⟩
  cases i with
  | wrsubkey idx =>
    have hk48 : (accept (.wrsubkey idx) (withInputs rest s)).opnd.extractLsb' 0 48 = s.subkeyIo :=
      operand_wrsubkey idx s
    rw [effectOf, effectWrsubkey, hk48]
    exact ⟨rfl, rfl, rfl, rfl, rfl⟩
  | nop | loadkey | encrypt | decrypt | rdsubkey => exact ⟨rfl, rfl, rfl, rfl, rfl⟩

/-- Settles O57: two commands from issue to completion, with DATA_IN written between them, and CIPHER's round trip. -/
theorem decryptCommandRestoresTheBlock : Obligations.DecryptCommandRestoresTheBlock := by
  intro s v rest hr hb hskv h
  obtain ⟨t₁, t₂, hstep₁, hstep₂, hview₂, hsk₂, hskv₂, hout₂, -⟩ :=
    commandsRunFromIssueToCompletion s .encrypt _ hr hb (beq_iff_eq.mpr hskv) h
  have hr₂ : t₂.rst = false := (congrArg State.rst hview₂).trans hr
  have hb₂ : t₂.busy = false := congrArg State.busy hview₂
  have hinputs₂ := congrArg State.inputs hview₂
  have hstep₃ := step_dataWrite t₂ 0x3 v _ hr₂ hinputs₂ (by decide) (by decide)
  obtain ⟨t₄, t₅, hstep₄, hstep₅, hview₅, -, -, hout₅, -⟩ := commandsRunFromIssueToCompletion
    (dataWrite 0x3 v (withInputs (.host (.write 0x0 (encode .decrypt)) :: .complete :: rest) t₂)) .decrypt rest hr₂ hb₂
    (beq_iff_eq.mpr (hskv₂.trans hskv)) rfl
  refine ⟨t₁, t₂, _, t₄, t₅, hstep₁, hstep₂, hstep₃, hstep₄, hstep₅, congrArg State.inputs hview₅,
    congrArg State.busy hview₅, congrArg State.done hview₅, congrArg State.err hview₅, fun hv => ?_⟩
  calc t₅.dataOut
      = cipher v t₂.sk orderRev := hout₅
    _ = cipher (cipher s.dataIn s.sk orderFwd) s.sk orderRev := by rw [hv, hout₂, hsk₂]
    _ = s.dataIn := cipher_cipher_of_reverse _ _ _ _ (roundKeys_orderRev s.sk)

/-! ### STATUS as a word (10_state.md R27, R30) -/

theorem statusBits (s : State) :
    (statusWord s).getLsbD 0 = s.busy ∧ (statusWord s).getLsbD 1 = s.done ∧ (statusWord s).getLsbD 2 = ksv s ∧
    (statusWord s).getLsbD 3 = s.ovr := by
  simp only [statusWord, BitVec.getLsbD_setWidth, BitVec.getLsbD_append]
  simp

theorem statusWord_err (s : State) : (statusWord s).extractLsb' 4 4 = s.err := by
  refine BitVec.eq_of_getLsbD_eq fun i hi => ?_
  simp only [statusWord, BitVec.getLsbD_extractLsb', BitVec.getLsbD_setWidth, BitVec.getLsbD_append]
  have h64 : 4 + i < 64 := by omega
  simp [hi, h64]

theorem statusWord_reserved (s : State) : (statusWord s).extractLsb' 8 56 = 0 := by
  refine BitVec.eq_of_getLsbD_eq fun i hi => ?_
  simp [statusWord, hi]

/-- Settles O23: STATUS field by field, and the reset values. -/
theorem statusBitsAreTheirFields : Obligations.StatusBitsAreTheirFields := by
  refine ⟨fun s => ?_, statusWord_resetRegs State.reset, rfl⟩
  obtain ⟨hbusy, hdone, hksv, hovr⟩ := statusBits s
  exact ⟨by rw [hksv, ksv, beq_iff_eq], hbusy, hdone, hovr, statusWord_err s, statusWord_reserved s, rfl⟩

/-! ### The host's assembly (30_encoding.md R79, R80) -/

/-- One access of a host's program, the pin low. -/
theorem deviceAfter_read (a : Addr) (d : State) (hr : d.rst = false) :
    deviceAfter (.host (.read a)) d = some { d with inputs := [], rdata := regRead a d } := by
  rw [deviceAfter, step_read { d with inputs := [.host (.read a)] } a [] hr rfl]
  rfl

theorem deviceAfter_statusWrite (v : Word) (d : State) (hr : d.rst = false) :
    deviceAfter (.host (.write 0x1 v)) d = some (statusWrite v { d with inputs := [] }) := by
  rw [deviceAfter, step_write { d with inputs := [.host (.write 0x1 v)] } 0x1 v [] hr rfl]
  rfl

/-- 0xFA has ones at DONE, OVR and all of ERR. -/
theorem statusWrite_clrst (s : State) : statusWrite 0xFA s = { s with done := false, ovr := false, err := 0 } := by
  simp [statusWrite]

/-- Settles O59: the one write of CLRST, and what its word clears. -/
theorem clrstClearsTheStatus : Obligations.ClrstClearsTheStatus := by
  intro h after hprog hpos hr
  have hstmt : h.prog[h.pos]? = some (.wr .status (.imm 0xFA)) := by rw [hprog, hpos]; rfl
  rw [hostTurn, hstmt]
  simp only [hostValue, Option.bind_some, hostWrites, regAddr, deviceAfter_statusWrite _ _ hr, Option.map_some,
    statusWrite_clrst, hpos]

/-- The first label of its number is found where it stands. -/
theorem labelIn_append (l : Nat) (before after : List HostStmt) (k : Nat) (h : .label l ∉ before) :
    labelIn l (before ++ .label l :: after) k = some (k + before.length) := by
  induction before generalizing k with
  | nil => simp [labelIn]
  | cons st rest ih =>
    obtain ⟨hst, hrest⟩ : HostStmt.label l ≠ st ∧ HostStmt.label l ∉ rest := by simpa using h
    rw [List.cons_append, labelIn, if_neg hst.symm, ih _ hrest, List.length_cons, Nat.add_right_comm, Nat.add_assoc]

/-- The mask of WAIT looks at BUSY. -/
theorem statusWord_and_one (s : State) : statusWord s &&& 1 = 0 ↔ s.busy = false := by
  obtain ⟨hbusy, -⟩ := statusBits s
  rw [BitVec.ofNat_eq_ofNat, BitVec.and_one_eq_setWidth_ofBool_getLsbD, hbusy]
  cases s.busy <;> decide

/-- The statements of a WAIT, by their place in the program. -/
theorem getElem?_asmWait (before after : List HostStmt) (l x n : Nat) :
    (before ++ asmWait l x ++ after)[before.length + n]? = (asmWait l x ++ after)[n]? := by
  rw [List.append_assoc, List.getElem?_append_right (by omega), Nat.add_sub_cancel_left]

/-- The host after it has read STATUS into `x`. -/
def afterStatusRead (x : Nat) (h : HostSystem) : HostSystem :=
  { h with
    pos := h.pos + 1
    vars := (x, statusWord h.device) :: h.vars
    device := { h.device with inputs := [], rdata := statusWord h.device } }

theorem hostTurn_readStatus (h : HostSystem) (x : Nat) (hstmt : h.prog[h.pos]? = some (.rd .status x))
    (hr : h.device.rst = false) : hostTurn h = some (afterStatusRead x h) := by
  rw [hostTurn, hstmt]
  exact congrArg (Option.map _) (deviceAfter_read 0x1 h.device hr)

/-- A branch on BUSY right after STATUS was read: back to the label while BUSY = 1, else on. -/
theorem hostTurn_branchOnBusy (h : HostSystem) (x l k : Nat) (hstmt : h.prog[h.pos + 1]? = some (.bnz x 1 l))
    (hlabel : labelIn l h.prog 0 = some k) : hostTurn (afterStatusRead x h) =
      some { afterStatusRead x h with pos := if h.device.busy = true then k else h.pos + 2 } := by
  have hvalue : varValue x (afterStatusRead x h) = some (statusWord h.device) := by simp [varValue, afterStatusRead]
  have hstmt' : (afterStatusRead x h).prog[(afterStatusRead x h).pos]? = some (.bnz x 1 l) := hstmt
  rw [hostTurn, hstmt']
  simp only [hostBranch, hvalue, statusWord_and_one]
  cases hb : h.device.busy with
  | true => exact congrArg (Option.map _) hlabel
  | false => rfl

/-- Settles O58: the read gets STATUS, and the branch looks at its BUSY bit. -/
theorem waitPollsUntilTheEngineIsIdle : Obligations.WaitPollsUntilTheEngineIsIdle := by
  intro h before after l x hprog hlabel hpos hr
  have hread : h.prog[h.pos]? = some (.rd .status x) := by
    rw [hprog, hpos, getElem?_asmWait]; rfl
  have hbranch : h.prog[h.pos + 1]? = some (.bnz x 1 l) := by
    rw [hprog, hpos, Nat.add_assoc, getElem?_asmWait]; rfl
  have hback : labelIn l h.prog 0 = some before.length := by
    rw [hprog, asmWait, List.append_assoc, List.cons_append, labelIn_append l before _ 0 hlabel, Nat.zero_add]
  exact ⟨_, _, hostTurn_readStatus h x hread hr, hostTurn_branchOnBusy h x l _ hbranch hback, rfl, by rw [hpos], rfl⟩

end Sys2Proof.Proofs
